-- ==== Sys2Proof/Word.lean ====
section
/-! DEFINITION. The value types of the block: bits and levels, 8-bit tick values, 3-bit phase codes,
8-bit operation words (00_scope.md R9 to R11, 30_encoding.md R80). -/

namespace Sys2Proof

/-- One bit, or one of DOC00's booleans (R11): `true` is 1, `false` is 0 (log 11). -/
abbrev Bit := Bool

/-- The level of a one-bit line: `true` is high (1), `false` is low (0) (R62, R85). -/
abbrev Level := Bool

/-- An 8-bit unsigned tick value; all arithmetic on it is modulo 256 (R9, R10, R12). -/
abbrev TickVal := BitVec 8

/-- A 3-bit phase code, the value of the sequencer's program counter (R44). -/
abbrev PhaseCode := BitVec 3

/-- An 8-bit operation word `W[7:0]` (R80). -/
abbrev OpWord := BitVec 8

end Sys2Proof
end

