-- ==== Sys2Proof/Config.lean ====
section
/-! DEFINITION. The fixed parameters of 00_scope.md R9. The block has no run-time configuration; each literal of
the source is named once here with the value the source prints (D22). The spec leaves no value undefined, so
there is no free value among them. -/

namespace Sys2Proof.Config

/-- `TICK_BITS`: width of `Tick`, `LastActivity`, `AckPulseStart`; must not be widened (R9, R10). -/
def tickBits : Nat := 8

/-- `GATE_TICKS`: the gate reopens at this age while the button is released (R9). -/
def gateTicks : TickVal := 3#8

/-- `ACK_TICKS`: the acknowledgement drive stops at this age (R9). -/
def ackTicks : TickVal := 2#8

/-- `TICK_PERIOD` in milliseconds, nominal ("about 16 ms"); read by no rule (R9, R198, log 10). -/
def tickPeriodNominalMs : Nat := 16

/-- `N_IRQ`: interrupt sources (R9, R162). -/
def nIrq : Nat := 2

/-- `N_PHASE`: micro-operations of one loop iteration (R9, R44). -/
def nPhase : Nat := 8

end Sys2Proof.Config
end

