-- ==== Sys2Proof/Syntax.lean ====
section
/-! DEFINITION. The twelve operations of 30_encoding.md R81 as one inductive, with their agents (00_scope.md R17),
formats (R80 to R84), phase codes (R86) and mnemonics (R92), and the pseudo-operations of R93. -/

namespace Sys2Proof

/-- The twelve operations (R81), one constructor per row of the opcode table. The only operand in the whole
encoding is the one-bit level `v` of the two pin operations (R85); a `Level` has no ill-formed value. -/
inductive Instr where
  /-- Consume the sticky tick flag (R102). -/
  | tck
  /-- Sample the button and run the debounce filter (R112). -/
  | btn
  /-- Apply a qualified press (R121). -/
  | act
  /-- Sample the fault line and latch (R123). -/
  | flt
  /-- End the acknowledgement drive when it is old enough (R124). -/
  | ack
  /-- Derive and drive the outputs (R136). -/
  | out
  /-- Open the critical region (R141). -/
  | cli
  /-- Check, maybe sleep, re-enable, deliver what was held (R142). -/
  | slp
  /-- One firing of the Tick Source (R101). -/
  | tick
  /-- Reset (R148). -/
  | rst
  /-- The environment sets the level of the button line (R111). -/
  | btnpin (v : Level)
  /-- The environment sets the external open-drain output on the fault line (R122). -/
  | fltpin (v : Level)
deriving DecidableEq, Repr

/-- The three agents that act on the state (R17). -/
inductive Agent where
  | sequencer
  | tickSource
  | environment
deriving DecidableEq, Repr

/-- The three formats of the operation word (R80): micro-operation, event, pin change. -/
inductive Format where
  | c
  | e
  | p
deriving DecidableEq, Repr

/-- Which agent takes an operation (R17, the agent column of R81). -/
def Instr.agent : Instr → Agent
  | .tck | .btn | .act | .flt | .ack | .out | .cli | .slp => .sequencer
  | .tick => .tickSource
  | .rst | .btnpin _ | .fltpin _ => .environment

/-- The format of an operation's word (R81). -/
def Instr.format : Instr → Format
  | .tck | .btn | .act | .flt | .ack | .out | .cli | .slp => .c
  | .tick | .rst => .e
  | .btnpin _ | .fltpin _ => .p

/-- The phase code of a micro-operation (R86); `none` for the operations of the other two agents. -/
def Instr.phaseCode? : Instr → Option PhaseCode
  | .tck => some 0#3
  | .btn => some 1#3
  | .act => some 2#3
  | .flt => some 3#3
  | .ack => some 4#3
  | .out => some 5#3
  | .cli => some 6#3
  | .slp => some 7#3
  | .tick | .rst | .btnpin _ | .fltpin _ => none

/-- The mnemonic of an operation, upper case (R81, R92). -/
def Instr.mnemonic : Instr → String
  | .tck => "TCK"
  | .btn => "BTN"
  | .act => "ACT"
  | .flt => "FLT"
  | .ack => "ACK"
  | .out => "OUT"
  | .cli => "CLI"
  | .slp => "SLP"
  | .tick => "TICK"
  | .rst => "RST"
  | .btnpin _ => "BTNPIN"
  | .fltpin _ => "FLTPIN"

/-- The pseudo-operations (R93). They add no semantics. -/
inductive Pseudo where
  | iter
  | press
  | release
  | fault
  | clear
  /-- `TICKITER n`; `TICKITER` alone is `tickIter 1`. -/
  | tickIter (n : Nat)
deriving DecidableEq, Repr

/-- One loop iteration of DOC00 with no environment operation inside it: the eight micro-operations in order (R93). -/
def iterOps : List Instr := [.tck, .btn, .act, .flt, .ack, .out, .cli, .slp]

/-- `TICK; ITER`, repeated (R93). -/
def tickIterOps : Nat → List Instr
  | 0 => []
  | n + 1 => .tick :: iterOps ++ tickIterOps n

/-- The expansion of a pseudo-operation (the table of R93). -/
def Pseudo.expand : Pseudo → List Instr
  | .iter => iterOps
  | .press => [.btnpin false]
  | .release => [.btnpin true]
  | .fault => [.fltpin false]
  | .clear => [.fltpin true]
  | .tickIter n => tickIterOps n

end Sys2Proof
end

