-- ==== Sys2Proof/WellFormed.lean ====
section
/-! DEFINITION. What a well-formed word, trace and written state are, independently of the decoder: the `match`/`mask`
rows of 30_encoding.md R89, and the field widths of 10_state.md R20. An `Instr` itself has no ill-formed value: its one
operand is a `Level` (R85). -/

namespace Sys2Proof

/-- One row of the opcode map (R89): `w` belongs to the row when `w AND mask = pattern`. -/
structure OpRow where
  mnemonic : String
  pattern  : OpWord
  mask     : OpWord
deriving DecidableEq, Repr

/-- The twelve rows of the opcode map (R89, opcode_table.json). -/
def opRows : List OpRow :=
  [ ⟨"TCK", 0x00#8, 0xFF#8⟩, ⟨"BTN", 0x01#8, 0xFF#8⟩, ⟨"ACT", 0x02#8, 0xFF#8⟩, ⟨"FLT", 0x03#8, 0xFF#8⟩,
    ⟨"ACK", 0x04#8, 0xFF#8⟩, ⟨"OUT", 0x05#8, 0xFF#8⟩, ⟨"CLI", 0x06#8, 0xFF#8⟩, ⟨"SLP", 0x07#8, 0xFF#8⟩,
    ⟨"TICK", 0x10#8, 0xFF#8⟩, ⟨"RST", 0x1F#8, 0xFF#8⟩,
    ⟨"BTNPIN", 0x20#8, 0xFE#8⟩, ⟨"FLTPIN", 0x22#8, 0xFE#8⟩ ]

/-- A word belongs to a row of the opcode map. -/
def OpRow.covers (r : OpRow) (w : OpWord) : Bool := w &&& r.mask == r.pattern

/-- A word is defined when a row covers it; every other word is reserved (R89, R90). -/
def definedWord (w : OpWord) : Bool := opRows.any (fun r => r.covers w)

/-- A trace is well formed when it holds defined words only (R90). Whether each is a legal step depends on the state. -/
def wfTrace (ws : List OpWord) : Bool := ws.all definedWord

/-- The nineteen fields of the state record in canonical order with their widths in bits (R20). -/
def fieldWidths : List (String × Nat) :=
  [ ("Tick", Config.tickBits), ("TickPending", 1), ("RawButtonState", 1), ("DebouncedButtonState", 1), ("DebounceGate", 1),
    ("LastActivity", Config.tickBits), ("PressEvent", 1), ("PowerRequested", 1), ("FaultLineState", 1), ("FaultLatched", 1),
    ("AckPulseActive", 1), ("AckPulseStart", Config.tickBits), ("PowerEnabled", 1), ("Indicator", 2), ("Phase", 3),
    ("IntEnable", 1), ("TickIrq", 1), ("PcIrq", 1), ("Asleep", 1) ]

/-- Each number fits its width. -/
def fitWidths : List (String × Nat) → List Nat → Bool
  | [], [] => true
  | (_, n) :: fs, v :: vs => decide (v < 2 ^ n) && fitWidths fs vs
  | [], _ :: _ => false
  | _ :: _, [] => false

/-- A state written as numbers in the canonical order is well formed when there are nineteen of them, each fits its
field, and `Indicator` (the fourteenth) is not the illegal code `0b11` (R20, R34, R87, U3). -/
def wfTuple (vs : List Nat) : Bool := fitWidths fieldWidths vs && vs[13]? != some 3

end Sys2Proof
end

