-- ==== Sys2Proof/Decode.lean ====
section
/-! DEFINITION. The decoder of the 8-bit operation word, total on all 256 words and rejecting by name, and after it the
encoder, both from the formats of 30_encoding.md R80 to R86 and the reserved ranges of R90. -/

namespace Sys2Proof

/-- Why a word names no operation (R90): the class or selector range it falls in, with the word itself. -/
inductive DecodeError where
  /-- Class 0 with `W[3] = 1`: words `0x08` to `0x0F`. -/
  | reservedMicroOp (w : OpWord)
  /-- Class 1 with event number 1 to 14: words `0x11` to `0x1E`. -/
  | reservedEvent (w : OpWord)
  /-- Class 2 with `W[3:2]` not `00`: words `0x24` to `0x2F`. -/
  | reservedPinChange (w : OpWord)
  /-- Classes 3 to 15: words `0x30` to `0xFF`. -/
  | reservedClass (w : OpWord)
  /-- There is no word to decode. -/
  | noWord
deriving DecidableEq, Repr

/-- `W[7:4]`, the class (R80). -/
def wordClass (w : OpWord) : BitVec 4 := w.extractLsb' 4 4

/-- `W[3:0]`, the selector inside the class (R80). -/
def wordSelector (w : OpWord) : BitVec 4 := w.extractLsb' 0 4

/-- `W[2:0]`, the phase code of a format C word (R82). -/
def wordPhase (w : OpWord) : PhaseCode := w.extractLsb' 0 3

/-- `W[1]`, the pin of a format P word: 0 the button line, 1 the external side of the fault line (R84). -/
def wordPin (w : OpWord) : Bit := w.getLsbD 1

/-- `W[0]`, the operand `v` of a format P word, used as it stands (R84, R85). -/
def wordLevel (w : OpWord) : Level := w.getLsbD 0

/-- The micro-operation hardwired to each phase code (R44, R73, R86). -/
def microInstr (p : PhaseCode) : Instr :=
  if p = 0#3 then .tck
  else if p = 1#3 then .btn
  else if p = 2#3 then .act
  else if p = 3#3 then .flt
  else if p = 4#3 then .ack
  else if p = 5#3 then .out
  else if p = 6#3 then .cli
  else .slp

/-- Class 0, format C: `W[3] = 0` and the phase code in `W[2:0]` (R82). -/
def decodeMicroOp (w : OpWord) : Except DecodeError Instr :=
  if w.getLsbD 3 then .error (.reservedMicroOp w) else .ok (microInstr (wordPhase w))

/-- Class 1, format E: event number 0 is `TICK`, 15 is `RST` (R83). -/
def decodeEvent (w : OpWord) : Except DecodeError Instr :=
  if wordSelector w = 0x0#4 then .ok .tick
  else if wordSelector w = 0xF#4 then .ok .rst
  else .error (.reservedEvent w)

/-- Class 2, format P: `W[3:2] = 0b00`, the pin in `W[1]`, the level in `W[0]` (R84). -/
def decodePinChange (w : OpWord) : Except DecodeError Instr :=
  if w.extractLsb' 2 2 ≠ 0#2 then .error (.reservedPinChange w)
  else if wordPin w then .ok (.fltpin (wordLevel w))
  else .ok (.btnpin (wordLevel w))

/-- The decoder: the operation is told from the word alone (R80). -/
def decode (w : OpWord) : Except DecodeError Instr :=
  if wordClass w = 0x0#4 then decodeMicroOp w
  else if wordClass w = 0x1#4 then decodeEvent w
  else if wordClass w = 0x2#4 then decodePinChange w
  else .error (.reservedClass w)

/-- Decode the first word of a list and give the rest back: one length, no prefix (R80). -/
def decodeFirst : List OpWord → Except DecodeError (Instr × List OpWord)
  | [] => .error .noWord
  | w :: rest =>
    match decode w with
    | .ok i => .ok (i, rest)
    | .error e => .error e

/-- Decode a whole trace; the first word that names no operation refuses it (R90). -/
def decodeTrace : List OpWord → Except DecodeError (List Instr)
  | [] => .ok []
  | w :: ws =>
    match decode w, decodeTrace ws with
    | .ok i, .ok is => .ok (i :: is)
    | .error e, _ => .error e
    | .ok _, .error e => .error e

/-- A format C word: class 0, `W[3] = 0`, the phase code (R82). -/
def wordC (p : PhaseCode) : OpWord := 0x0#4 ++ 0#1 ++ p

/-- A format E word: class 1 and the event number (R83). -/
def wordE (ev : BitVec 4) : OpWord := 0x1#4 ++ ev

/-- A format P word: class 2, `00`, the pin, the level (R84). -/
def wordP (pin v : Bit) : OpWord := 0x2#4 ++ 0#2 ++ BitVec.ofBool pin ++ BitVec.ofBool v

/-- The encoder (R81 to R84): the one word of each operation. -/
def encode : Instr → OpWord
  | .tck => wordC 0#3
  | .btn => wordC 1#3
  | .act => wordC 2#3
  | .flt => wordC 3#3
  | .ack => wordC 4#3
  | .out => wordC 5#3
  | .cli => wordC 6#3
  | .slp => wordC 7#3
  | .tick => wordE 0x0#4
  | .rst => wordE 0xF#4
  | .btnpin v => wordP false v
  | .fltpin v => wordP true v

/-- The words of a trace. -/
def encodeTrace (is : List Instr) : List OpWord := is.map encode

/-- The word of a table row given as `nbits` bits of a number; `none` when the bits do not fit one operation word (log 12). -/
def tableWord? (nbits w : Nat) : Option OpWord :=
  if nbits ≤ 8 ∧ w < 2 ^ nbits then some (BitVec.ofNat 8 w) else none

/-- What the decoder reads from a row's word, numbered as opcode_table.json numbers it: one 8-bit word, bit 0 least
significant (R80, R89). -/
def decodeTableWord (nbits w : Nat) : Option Instr :=
  match tableWord? nbits w with
  | none => none
  | some word =>
    match decode word with
    | .ok i => some i
    | .error _ => none

end Sys2Proof
end

