-- ==== Sys2Proof/Machine/State.lean ====
section
/-! DEFINITION. The state: the nineteen fields of 10_state.md R20 in canonical order, the environment's two variables of
R39, and the model's own list of waiting operation words (log 1); the faults (none, R160), the refusals (30_encoding.md
R90) and the state after reset (R49). -/

namespace Sys2Proof.Machine

/-- The indicator (R34): three values, so that the illegal code `0b11` cannot be built (R87, U3, log 9). -/
inductive Indicator where
  | off
  | red
  | green
deriving DecidableEq, Repr

/-- The whole state. The first nineteen fields are the block's (R20), `btnPin` and `fltExt` are the environment's (R39),
`trace` is the model's own: the operation words the environment's schedule has in store, first one next (log 1). -/
structure State where
  /-- The wrapping tick counter (R21). -/
  tick : TickVal
  /-- The sticky tick flag (R22). -/
  tickPending : Bit
  /-- The sample register of the button, 1 pressed (R23). -/
  rawButtonState : Bit
  /-- The previous sample of the button (R24). -/
  debouncedButtonState : Bit
  /-- 1 open: ready for the next qualified press (R25). -/
  debounceGate : Bit
  /-- Tick value of the last activity (R26). -/
  lastActivity : TickVal
  /-- The qualified press between `BTN` and `ACT` (R27). -/
  pressEvent : Bit
  /-- The intent to supply downstream power (R28). -/
  powerRequested : Bit
  /-- The sample register of the fault line, 1 active (R29). -/
  faultLineState : Bit
  /-- The fault memory (R30). -/
  faultLatched : Bit
  /-- The acknowledgement flag and enable of the open-drain driver on `FLT_N` (R31). -/
  ackPulseActive : Bit
  /-- Tick value at which the drive began (R32). -/
  ackPulseStart : TickVal
  /-- The output latch behind `PWR_EN_N`, 1 enabled (R33). -/
  powerEnabled : Bit
  /-- The output latch behind `LED_A`, `LED_B` (R34). -/
  indicator : Indicator
  /-- The sequencer's program counter (R44). -/
  phase : PhaseCode
  /-- The global interrupt enable (R35). -/
  intEnable : Bit
  /-- The pending latch of the tick interrupt; set, the Tick Source is not re-armed (R36). -/
  tickIrq : Bit
  /-- The pending latch of the pin-change interrupt (R37). -/
  pcIrq : Bit
  /-- 1: low-power sleep, the sequencer does not step (R38). -/
  asleep : Bit
  /-- Environment: the level on `BTN_N`, 1 released (R39). -/
  btnPin : Level
  /-- Environment: the external device's output on `FLT_N`, 1 released (R39). -/
  fltExt : Level
  /-- The model's own: operation words waiting for the step (log 1). -/
  trace : List OpWord
deriving DecidableEq, Repr

/-- The faults of the block: none. "The block raises no synchronous exception: no operation traps" (R160), and an illegal
trace word is refused, never a fault (R90, U1). A type without a constructor says so (log 7). -/
inductive Fault where
deriving DecidableEq, Repr

/-- Why the model takes no step. None of these is a behaviour of the hardware (R90, D26). -/
inductive Refusal where
  /-- The instruction has no meaning in this model yet. Raised by an arm of `exec` only; no arm raises it. Safe. -/
  | notModelled (mnemonic : String)
  /-- The waiting word names no operation (R90, U1). Raised by `step`. Safe: the trace is not a run of the block. -/
  | reservedWord (why : DecodeError)
  /-- A micro-operation with phase code `code` while `Asleep = 1` (R90, U2). Raised by every micro-operation. Safe: the
  hardwired sequencer cannot take it. -/
  | notWhileAsleep (code : PhaseCode)
  /-- A micro-operation whose phase code differs from `Phase` (R90, U2). Raised by every micro-operation. Safe: the
  hardwired sequencer cannot take it. -/
  | outOfPhase (code phase : PhaseCode)
deriving DecidableEq, Repr

/-- The machine right after reset (R49): every field of the block at the value of the table (log 4). `btnPin` and `fltExt` are the
environment's choice, here both released (log 3); nothing waits in `trace` (log 5). -/
def State.reset : State where
  tick := 0#8
  tickPending := false
  rawButtonState := false
  debouncedButtonState := false
  debounceGate := true
  lastActivity := 0#8
  pressEvent := false
  powerRequested := false
  faultLineState := false
  faultLatched := false
  ackPulseActive := false
  ackPulseStart := 0#8
  powerEnabled := false
  indicator := .off
  phase := 0#3
  intEnable := true
  tickIrq := false
  pcIrq := false
  asleep := false
  btnPin := true
  fltExt := true
  trace := []

/-- The reset state under the environment's own levels and schedule: U6 leaves both lines free at reset (R39, R183, R184). -/
def State.resetIn (btn flt : Level) (waiting : List OpWord) : State :=
  { State.reset with btnPin := btn, fltExt := flt, trace := waiting }

end Sys2Proof.Machine
end

