-- ==== Sys2Proof/Machine/Operands.lean ====
section
/-! DEFINITION. The pin space, the block's only operands beside its own fields: the lines of 20_memory.md R61, the
primitives `PinRead` (R62) and `PinWrite` (R64), the wired-AND level of the fault line (R63), the output wires
(10_state.md R41), the encoding of the indicator (30_encoding.md R87), and the canonical written form of a state (R20). -/

namespace Sys2Proof.Machine

/-- The lines `PinRead` reads (R62). -/
inductive InPin where
  | btnN
  | fltN
deriving DecidableEq, Repr

/-- The lines `PinWrite` sets (R64). -/
inductive OutPin where
  | pwrEnN
  | ledA
  | ledB
deriving DecidableEq, Repr

/-- The level of the shared open-drain line: high only if neither driver conducts (R63, log 16). -/
def fltLevel (fltExt ackPulseActive : Bit) : Level := fltExt && !ackPulseActive

/-- The level of `FLT_N` (R63). -/
def State.fltN (s : State) : Level := fltLevel s.fltExt s.ackPulseActive

/-- `PinRead(p)`: the present level of an input line, without a side effect (R62). -/
def pinRead : InPin → State → Level
  | .btnN, s => s.btnPin
  | .fltN, s => s.fltN

/-- `NOT PinRead(BTN_N)`: the button is pressed (R62, R88). -/
def State.pressed (s : State) : Bit := !pinRead .btnN s

/-- `NOT PinRead(FLT_N)`: the fault line is active (R62, R88). -/
def State.faultActive (s : State) : Bit := !pinRead .fltN s

/-- The two-bit code of the indicator: bit 0 is wire A, bit 1 is wire B (R34, R87). -/
def Indicator.code : Indicator → BitVec 2
  | .off => 0b00#2
  | .red => 0b01#2
  | .green => 0b10#2

/-- The indicator of a two-bit code; `0b11` is no indicator (R87, U3). -/
def Indicator.ofCode? (c : BitVec 2) : Option Indicator :=
  if c = 0b00#2 then some .off
  else if c = 0b01#2 then some .red
  else if c = 0b10#2 then some .green
  else none

/-- The level the block holds on an output line (R41): `PWR_EN_N = NOT PowerEnabled`, `LED_A = Indicator[0]`,
`LED_B = Indicator[1]`, the last two in logical polarity (R88, log 9). -/
def outLevel : OutPin → State → Level
  | .pwrEnN, s => !s.powerEnabled
  | .ledA, s => s.indicator.code.getLsbD 0
  | .ledB, s => s.indicator.code.getLsbD 1

/-- The three `PinWrite`s of one `OUT`: the levels are held by the fields behind the lines (R64). -/
def driveOutputs (enabled : Bit) (ind : Indicator) (s : State) : State :=
  { s with powerEnabled := enabled, indicator := ind }

/-- DOC00's `set_drive(bool)` on the fault line: `AckPulseActive` is the enable of the driver (R31, R64). -/
def setDrive (on : Bit) (s : State) : State := { s with ackPulseActive := on }

/-- The electrical mode of the fault line (R16, R31). -/
inductive LineMode where
  | sensingInput
  | drivingLow
deriving DecidableEq, Repr

/-- Driving-low exactly when `AckPulseActive = 1` (R31). -/
def State.lineMode (s : State) : LineMode := if s.ackPulseActive then .drivingLow else .sensingInput

/-- The states of the fault latch (R120), with the orphan acknowledgement that DOC00 does not name (R127). -/
inductive LatchState where
  | sensing
  | latched
  | acknowledging
  | orphan
deriving DecidableEq, Repr

/-- How the two bits encode the state of the fault latch (the table of R120). -/
def State.latchState (s : State) : LatchState :=
  match s.faultLatched, s.ackPulseActive with
  | false, false => .sensing
  | true, false => .latched
  | true, true => .acknowledging
  | false, true => .orphan

/-- The two power states (R174). -/
inductive PowerState where
  | awake
  | asleep
deriving DecidableEq, Repr

/-- Awake is `Asleep = 0` (R174). -/
def State.powerState (s : State) : PowerState := if s.asleep then .asleep else .awake

/-- The number of a bit in the written form of a state. -/
def bitNat (b : Bit) : Nat := if b then 1 else 0

/-- The state record as nineteen numbers in the canonical order (R20, R65; log 20). -/
def State.tuple (s : State) : List Nat :=
  [ s.tick.toNat, bitNat s.tickPending, bitNat s.rawButtonState, bitNat s.debouncedButtonState, bitNat s.debounceGate,
    s.lastActivity.toNat, bitNat s.pressEvent, bitNat s.powerRequested, bitNat s.faultLineState, bitNat s.faultLatched,
    bitNat s.ackPulseActive, s.ackPulseStart.toNat, bitNat s.powerEnabled, s.indicator.code.toNat, s.phase.toNat,
    bitNat s.intEnable, bitNat s.tickIrq, bitNat s.pcIrq, bitNat s.asleep ]

/-- A start state written as nineteen numbers with the environment's levels; refused unless well formed (R20, R39, U3). -/
def State.ofTuple? (vs : List Nat) (btn flt : Level) : Option State :=
  if wfTuple vs then
    match vs with
    | [t, tp, rb, db, g, la, pe, pr, fl, fa, ak, as, en, ind, ph, ie, ti, pi, z] =>
      (Indicator.ofCode? (BitVec.ofNat 2 ind)).map fun i =>
        { tick := BitVec.ofNat 8 t, tickPending := tp == 1, rawButtonState := rb == 1, debouncedButtonState := db == 1,
          debounceGate := g == 1, lastActivity := BitVec.ofNat 8 la, pressEvent := pe == 1, powerRequested := pr == 1,
          faultLineState := fl == 1, faultLatched := fa == 1, ackPulseActive := ak == 1,
          ackPulseStart := BitVec.ofNat 8 as, powerEnabled := en == 1, indicator := i, phase := BitVec.ofNat 3 ph,
          intEnable := ie == 1, tickIrq := ti == 1, pcIrq := pi == 1, asleep := z == 1,
          btnPin := btn, fltExt := flt, trace := [] }
    | _ => none
  else none

end Sys2Proof.Machine
end

