-- ==== Sys2Proof/Machine/Flags.lean ====
section
/-! DEFINITION. The tests the operations compute: wrap-safe ages and their comparisons (40_tick_source.md R103), the rising
edge of the button (41_debounce_filter.md R112), the sleep-enable condition (44_sleep_and_arbiter.md R143) and the output
function (43_output_deriver.md R137). The block has no arithmetic condition codes. -/

namespace Sys2Proof.Machine

/-- The wrapping increment `(Tick + 1) mod 256` (R12, R103). -/
def nextTick (t : TickVal) : TickVal := t + 1#8

/-- `(now - since) mod 256`, DOC00's `(uint8)(now - then)` (R12, R103). -/
def ageOf (now since : TickVal) : TickVal := now - since

/-- `(Tick - LastActivity) mod 256 >= GATE_TICKS`, unsigned (R103, R112). -/
def State.gateExpired (s : State) : Bool := Config.gateTicks.ule (ageOf s.tick s.lastActivity)

/-- `(Tick - AckPulseStart) mod 256 >= ACK_TICKS`, unsigned (R103, R124). -/
def State.ackExpired (s : State) : Bool := Config.ackTicks.ule (ageOf s.tick s.ackPulseStart)

/-- Rising edge of the button: sampled pressed, previous sample released (R16, R112 step 1). -/
def State.risingEdge (s : State) : Bool := s.pressed && !s.debouncedButtonState

/-- The sleep-enable condition `TickPending = 0` (R143). -/
def State.sleepEnabled (s : State) : Bool := !s.tickPending

/-- `PowerEnabled` as a function of `(PowerRequested, FaultLatched)` (R136, R137). -/
def derivedEnable (powerRequested _faultLatched : Bit) : Bit := powerRequested

/-- `Indicator` as a function of `(PowerRequested, FaultLatched)`, the tests in the order of R136 (R137, U4). -/
def derivedIndicator (powerRequested faultLatched : Bit) : Indicator :=
  if powerRequested then .green
  else if faultLatched then .red
  else .off

end Sys2Proof.Machine
end

