-- ==== Sys2Proof/Machine/Ops.lean ====
section
/-! DEFINITION. The operations the meanings share: the enabledness check of a micro-operation (10_state.md R46), the advance
of `Phase` (R45), `Reset()` (44_sleep_and_arbiter.md R148), and the taking of an interrupt: `Deliver` (R146), raising and
holding (R144, R145). The block has no other exception and no return from one (60_exceptions.md R160, R166, R168). -/

namespace Sys2Proof.Machine

/-- The two interrupt sources (R162). -/
inductive IrqSource where
  | tick
  | pc
deriving DecidableEq, Repr

/-- The number of an interrupt source, used only as a name (R162, D20). -/
def IrqSource.number : IrqSource → Nat
  | .tick => 0
  | .pc => 1

/-- The micro-operation with phase code `code` runs exactly when `Asleep = 0` and `Phase = code`; in any other state it is
not a step the hardware can take and is refused (R46, R82, R90, log 8). One call is one atomic step (R67, log 18). -/
def microOp (code : PhaseCode) (effect : State → State) (s : State) : Host.Outcome State Fault Refusal :=
  if s.asleep then .refused (.notWhileAsleep code)
  else if s.phase = code then .next (effect s)
  else .refused (.outOfPhase code s.phase)

/-- `Phase <- (Phase + 1) mod 8`, the end of every micro-operation (R45, log 19). -/
def advance (s : State) : State := { s with phase := s.phase + 1#3 }

/-- `Reset()`: every one of the nineteen fields to its reset value; the environment's variables keep theirs (R148, R39), and
so does what waits in `trace` (log 13). -/
def resetBlock (s : State) : State :=
  { tick := 0#8, tickPending := false,
    rawButtonState := false, debouncedButtonState := false, debounceGate := true, lastActivity := 0#8, pressEvent := false,
    powerRequested := false,
    faultLineState := false, faultLatched := false, ackPulseActive := false, ackPulseStart := 0#8,
    powerEnabled := false, indicator := .off,
    phase := 0#3, intEnable := true, tickIrq := false, pcIrq := false, asleep := false,
    btnPin := s.btnPin, fltExt := s.fltExt, trace := s.trace }

/-- `Deliver(src)`: the whole of an interrupt handler (R146). Nothing is saved or redirected (R166); the re-arm of the Tick
Source is the clearing of `TickIrq` (D10). -/
def deliver : IrqSource → State → State
  | .tick, s => { s with tickIrq := false, tick := nextTick s.tick, tickPending := true, asleep := false }
  | .pc, s => { s with pcIrq := false, asleep := false }

/-- A raise with `IntEnable = 0` (R145): the latch is set; a second tick while one is held is the missed re-arm and resets
the block (R101, R104, R161, log 14). -/
def hold : IrqSource → State → State
  | .tick, s => if s.tickIrq then resetBlock s else { s with tickIrq := true }
  | .pc, s => { s with pcIrq := true }

/-- Raising an interrupt (R144): delivered at once with `IntEnable = 1`, held otherwise. -/
def raiseIrq (src : IrqSource) (s : State) : State := if s.intEnable then deliver src s else hold src s

/-- The pending latch of a source (R163). -/
def State.pendingIrq (s : State) : IrqSource → Bit
  | .tick => s.tickIrq
  | .pc => s.pcIrq

/-- Delivery of a held interrupt by `SLP` (R142, R163). -/
def deliverHeld (src : IrqSource) (s : State) : State := if s.pendingIrq src then deliver src s else s

end Sys2Proof.Machine
end

