-- ==== Sys2Proof/Machine/Debounce.lean ====
section
/-! DEFINITION. The GPIO debounce filter: `BTNPIN` (41_debounce_filter.md R111) and `BTN` (R112). -/

namespace Sys2Proof.Machine

/-- `BTNPIN v`: the environment sets the button line; no field of the block changes (R111). -/
def execBtnpin (v : Level) (s : State) : Host.Outcome State Fault Refusal := .next { s with btnPin := v }

/-- Step 1, the gate test at a rising edge: an open gate closes and emits the qualified press (R112). -/
def qualifyPress (s : State) : State :=
  if s.debounceGate then { s with debounceGate := false, pressEvent := true } else s

/-- `LastActivity <- Tick` (R112 steps 1 and 2). -/
def stampActivity (s : State) : State := { s with lastActivity := s.tick }

/-- Step 3: a released sample reopens the gate once the last activity is old enough (R112). -/
def reopenGate (s : State) : State := if s.gateExpired then { s with debounceGate := true } else s

/-- The three branches of the filter, in the order of R112. -/
def filterSample (s : State) : State :=
  if s.risingEdge then stampActivity (qualifyPress s)
  else if s.pressed then stampActivity s
  else reopenGate s

/-- The effect of `BTN`: the sample goes to `RawButtonState`, the filter runs, the sample becomes the previous one (R112). -/
def btnEffect (s : State) : State :=
  advance { filterSample { s with rawButtonState := s.pressed } with debouncedButtonState := s.pressed }

/-- `BTN`: sample the button and run the filter (R112). -/
def execBtn (s : State) : Host.Outcome State Fault Refusal := microOp 1#3 btnEffect s

end Sys2Proof.Machine
end

