-- ==== Sys2Proof/Machine/FaultLatch.lean ====
section
/-! DEFINITION. Press action and fault-latch synchronizer: `ACT` (42_fault_latch.md R121), `FLTPIN` (R122), `FLT` (R123),
`ACK` (R124). -/

namespace Sys2Proof.Machine

/-- A qualified press clears a latched fault, or else toggles the power request (R121). -/
def applyPress (s : State) : State :=
  if s.pressEvent then
    if s.faultLatched then { s with faultLatched := false, pressEvent := false }
    else { s with powerRequested := !s.powerRequested, pressEvent := false }
  else s

/-- The effect of `ACT` (R121). -/
def actEffect (s : State) : State := advance (applyPress s)

/-- `ACT`: apply a qualified press (R121). -/
def execAct (s : State) : Host.Outcome State Fault Refusal := microOp 2#3 actEffect s

/-- `FLTPIN v`: the external device's output; a change of the level of `FLT_N`, in either direction, raises the pin-change
interrupt (R122). -/
def execFltpin (v : Level) (s : State) : Host.Outcome State Fault Refusal :=
  .next (if ({ s with fltExt := v } : State).fltN = s.fltN then { s with fltExt := v }
    else raiseIrq .pc { s with fltExt := v })

/-- `Sensing` to `Latched` and at once to `Acknowledging` (R123, R125). -/
def latchFault (s : State) : State :=
  setDrive true { s with powerRequested := false, faultLatched := true, ackPulseStart := s.tick }

/-- The effect of `FLT`: the sample goes to `FaultLineState`; an active sample latches unless a fault is latched already
(R123). -/
def fltEffect (s : State) : State :=
  advance (if s.faultActive && !s.faultLatched then latchFault { s with faultLineState := s.faultActive }
    else { s with faultLineState := s.faultActive })

/-- `FLT`: sample the fault line and latch (R123). -/
def execFlt (s : State) : Host.Outcome State Fault Refusal := microOp 3#3 fltEffect s

/-- The end of the drive (R124): if the level of `FLT_N` changes, the pin-change interrupt is delivered, as the pseudocode
says, whatever `IntEnable` is (log 6). -/
def endDrive (s : State) : State :=
  if (setDrive false s).fltN = s.fltN then setDrive false s else deliver .pc (setDrive false s)

/-- The effect of `ACK` (R124). -/
def ackEffect (s : State) : State := advance (if s.ackPulseActive && s.ackExpired then endDrive s else s)

/-- `ACK`: end the acknowledgement drive when it is old enough (R124). -/
def execAck (s : State) : Host.Outcome State Fault Refusal := microOp 4#3 ackEffect s

end Sys2Proof.Machine
end

