-- ==== Sys2Proof/Machine/OutputDeriver.lean ====
section
/-! DEFINITION. The power-enable and status-LED output multiplexer: `OUT` (43_output_deriver.md R136). -/

namespace Sys2Proof.Machine

/-- The effect of `OUT` (R136). -/
def outEffect (s : State) : State :=
  advance (driveOutputs (derivedEnable s.powerRequested s.faultLatched)
    (derivedIndicator s.powerRequested s.faultLatched) s)

/-- `OUT`: drive the outputs from `(PowerRequested, FaultLatched)` (R136, R137). -/
def execOut (s : State) : Host.Outcome State Fault Refusal := microOp 5#3 outEffect s

end Sys2Proof.Machine
end

