-- ==== Sys2Proof/Machine/SleepArbiter.lean ====
section
/-! DEFINITION. Interrupt arbiter and sleep-enable controller: `CLI` (44_sleep_and_arbiter.md R141), `SLP` (R142), `RST` (R148). -/

namespace Sys2Proof.Machine

/-- The effect of `CLI`: `IntEnable <- 0` (R141). -/
def cliEffect (s : State) : State := advance { s with intEnable := false }

/-- `CLI`: open the critical region (R141). -/
def execCli (s : State) : Host.Outcome State Fault Refusal := microOp 6#3 cliEffect s

/-- The check and the entry into sleep (R142, R143). -/
def maybeSleep (s : State) : State := if s.sleepEnabled then { s with asleep := true } else s

/-- The effect of `SLP`: check, maybe sleep, re-enable, then deliver a held tick and then a held pin change (R142, R147). -/
def slpEffect (s : State) : State :=
  deliverHeld .pc (deliverHeld .tick (advance { maybeSleep s with intEnable := true }))

/-- `SLP`: the check, the entry into sleep and the re-enabling in one atomic operation (R142, R187). -/
def execSlp (s : State) : Host.Outcome State Fault Refusal := microOp 7#3 slpEffect s

/-- `RST`: reset from outside, enabled in every state (R148). -/
def execRst (s : State) : Host.Outcome State Fault Refusal := .next (resetBlock s)

end Sys2Proof.Machine
end

