-- ==== Sys2Proof/Machine/TimeBase.lean ====
section
/-! DEFINITION. The time base: `TICK` (40_tick_source.md R101) and `TCK` (R102). -/

namespace Sys2Proof.Machine

/-- `TICK`, one firing of the Tick Source (R101): a raise of the tick interrupt, enabled in every state. -/
def execTick (s : State) : Host.Outcome State Fault Refusal := .next (raiseIrq .tick s)

/-- The effect of `TCK`: `TickPending <- 0` (R102). -/
def tckEffect (s : State) : State := advance { s with tickPending := false }

/-- `TCK`: the loop consumes the sticky tick flag (R102). -/
def execTck (s : State) : Host.Outcome State Fault Refusal := microOp 0#3 tckEffect s

end Sys2Proof.Machine
end

