-- ==== Sys2Proof/Machine/Dispatch.lean ====
section
/-! DEFINITION. The dispatch: one arm per operation of 30_encoding.md R81, each one call of its meaning. -/

namespace Sys2Proof.Machine

def exec (i : Instr) (s : State) : Host.Outcome State Fault Refusal :=
  match i with
  | .tck => Sys2Proof.Machine.execTck s
  | .btn => Sys2Proof.Machine.execBtn s
  | .act => Sys2Proof.Machine.execAct s
  | .flt => Sys2Proof.Machine.execFlt s
  | .ack => Sys2Proof.Machine.execAck s
  | .out => Sys2Proof.Machine.execOut s
  | .cli => Sys2Proof.Machine.execCli s
  | .slp => Sys2Proof.Machine.execSlp s
  | .tick => Sys2Proof.Machine.execTick s
  | .rst => Sys2Proof.Machine.execRst s
  | .btnpin v => Sys2Proof.Machine.execBtnpin v s
  | .fltpin v => Sys2Proof.Machine.execFltpin v s

end Sys2Proof.Machine
end

