-- ==== Sys2Proof/Machine/Fetch.lean ====
section
/-! DEFINITION. Which operation the step takes next, and how a word is placed so that the very next step takes it. The block
fetches nothing (20_memory.md R73): the sequencer's operation is hardwired to `Phase` (10_state.md R44), and the other
operations are the environment's, whose schedule waits in `trace` (log 1, log 2, log 5). -/

namespace Sys2Proof.Machine

/-- What the next step of the machine is. -/
inductive Turn where
  /-- Operation `i`, to run in the state given (the word that named it is taken off `trace`). -/
  | op (i : Instr) (s : State)
  /-- Asleep and nothing waits: every field holds (R46, R174). -/
  | idle
  /-- The waiting word names no operation (R90). -/
  | reserved (why : DecodeError)
deriving DecidableEq, Repr

/-- The next turn: the first waiting word, or else the sequencer's micro-operation while awake (R46, log 1). -/
def nextTurn (s : State) : Turn :=
  match s.trace with
  | [] => if s.asleep then .idle else .op (microInstr s.phase) s
  | w :: rest =>
    match decode w with
    | .ok i => .op i { s with trace := rest }
    | .error why => .reserved why

/-- A micro-operation is selected by `Phase`, and only while awake (R46): the selection a word of format C needs. -/
def selectFor (w : OpWord) (s : State) : State :=
  if wordClass w = 0x0#4 ∧ w.getLsbD 3 = false then { s with phase := wordPhase w, asleep := false } else s

/-- The word is first in `trace`, and the sequencer stands where the word can be taken (log 5). -/
def placeWord (w : OpWord) (s : State) : State :=
  { selectFor w s with trace := w :: s.trace }

end Sys2Proof.Machine
end

