-- ==== Sys2Proof/Machine/Step.lean ====
section
/-! DEFINITION. One step of the machine: the next turn of `Fetch.lean`, run by `exec` (00_scope.md R14). -/

namespace Sys2Proof.Machine

/-- One atomic operation of a run (R14, R46), or the holding of a sleeping block for which nothing waits (log 2). -/
def step (s : State) : Host.Outcome State Fault Refusal :=
  match nextTurn s with
  | .op i s' => exec i s'
  | .idle => .next s
  | .reserved why => .refused (.reservedWord why)

/-- The word of a table row placed so that the very next step runs it (log 5); what the platform must have set up before stands
done (R186, log 17). -/
def State.withFetchWord (s : State) (nbits w : Nat) : State := placeWord (BitVec.ofNat 8 (w % 2 ^ nbits)) s

end Sys2Proof.Machine
end

