-- ==== Sys2Proof/Machine/TraceText.lean ====
section
/-! DEFINITION. The trace syntax of 30_encoding.md R92: one operation per line or separated by `;`, upper-case mnemonics,
`0` or `1` after a space as the operand of `BTNPIN` and `FLTPIN`, comments from `--` to the end of the line, and the
pseudo-operations of R93 (log 15). -/

namespace Sys2Proof.Machine

/-- A text as its characters. -/
abbrev Text := List Char

/-- Split a text at the characters that satisfy `p`. -/
def splitText (p : Char → Bool) : Text → List Text
  | [] => [[]]
  | c :: cs =>
    if p c then [] :: splitText p cs
    else
      match splitText p cs with
      | [] => [[c]]
      | w :: ws => (c :: w) :: ws

/-- A line without its comment (R92). -/
def stripComment : Text → Text
  | [] => []
  | '-' :: '-' :: _ => []
  | c :: cs => c :: stripComment cs

/-- The blank characters between a mnemonic and its operand. -/
def isBlank (c : Char) : Bool := c == ' ' || c == '\t' || c == '\r'

/-- The words of one operation's text. -/
def wordsOf (t : Text) : List Text := (splitText isBlank t).filter (fun w => !w.isEmpty)

/-- An operand `0` or `1` (R92). -/
def levelOf? : Text → Option Level
  | ['0'] => some false
  | ['1'] => some true
  | _ => none

/-- A decimal number of at least one digit, read after the value `acc`. -/
def decimalFrom? (acc : Nat) : Text → Option Nat
  | [] => some acc
  | c :: cs => if '0' ≤ c ∧ c ≤ '9' then decimalFrom? (10 * acc + (c.toNat - 48)) cs else none

/-- The repeat count of `TICKITER n` (R93). -/
def countOf? : Text → Option Nat
  | [] => none
  | c :: cs => decimalFrom? 0 (c :: cs)

/-- The operations without an operand, by mnemonic (R81). -/
def plainOps : List Instr := [.tck, .btn, .act, .flt, .ack, .out, .cli, .slp, .tick, .rst]

/-- The pseudo-operations without an operand, by name (R93). -/
def plainPseudos : List (String × Pseudo) :=
  [("ITER", .iter), ("PRESS", .press), ("RELEASE", .release), ("FAULT", .fault), ("CLEAR", .clear), ("TICKITER", .tickIter 1)]

/-- The operations one operation text stands for; `none` when it is not in the syntax (R92, R93). -/
def opsOfWords? : List Text → Option (List Instr)
  | [] => some []
  | [m] =>
    match plainOps.find? (fun i => i.mnemonic.toList == m) with
    | some i => some [i]
    | none => (plainPseudos.find? (fun p => p.1.toList == m)).map (fun p => p.2.expand)
  | [m, a] =>
    if m = "BTNPIN".toList then (levelOf? a).map (fun v => [.btnpin v])
    else if m = "FLTPIN".toList then (levelOf? a).map (fun v => [.fltpin v])
    else if m = "TICKITER".toList then (countOf? a).map (fun n => (Pseudo.tickIter n).expand)
    else none
  | _ :: _ :: _ :: _ => none

/-- The texts of the single operations: lines, comments taken off, split at `;` (R92). -/
def opTexts (t : Text) : List Text :=
  (splitText (· == '\n') t).flatMap (fun line => splitText (· == ';') (stripComment line))

/-- The operations of a list of operation texts, in order. -/
def opsOfTexts? : List Text → Option (List Instr)
  | [] => some []
  | t :: ts =>
    match opsOfWords? (wordsOf t), opsOfTexts? ts with
    | some is, some js => some (is ++ js)
    | _, _ => none

/-- The operations a trace text stands for (R92). -/
def parseTrace? (t : Text) : Option (List Instr) := opsOfTexts? (opTexts t)

/-- The operand of an operation as written. -/
def operandText : Instr → Text
  | .btnpin v | .fltpin v => [' ', if v then '1' else '0']
  | .tck | .btn | .act | .flt | .ack | .out | .cli | .slp | .tick | .rst => []

/-- One operation as text (R92). -/
def opText (i : Instr) : Text := i.mnemonic.toList ++ operandText i

/-- A trace as text, one operation per line (R92). -/
def traceText (is : List Instr) : Text := is.flatMap (fun i => opText i ++ ['\n'])

end Sys2Proof.Machine
end

