-- ==== Sys2Proof/Machine/Run.lean ====
section
/-! DEFINITION. Runs (00_scope.md R14): a sequence of operations applied one after the other, and when a pseudo-operation is
legal (30_encoding.md R93). -/

namespace Sys2Proof.Machine

/-- Apply the operations in order; the first refusal ends the run (R14, R90). -/
def runOps : List Instr → State → Host.Outcome State Fault Refusal
  | [], s => .next s
  | i :: is, s =>
    match exec i s with
    | .next t => runOps is t
    | .fault r => .fault r
    | .refused r => .refused r

/-- How many operations of a run satisfy `p`, each looked at with the state it is applied to. -/
def countAlong (p : Instr → State → Bool) : List Instr → State → Nat
  | [], _ => 0
  | i :: is, s =>
    (if p i s then 1 else 0) +
      match exec i s with
      | .next t => countAlong p is t
      | .fault _ => 0
      | .refused _ => 0

/-- An operation can be taken in a state (R46): a micro-operation when `Asleep = 0` and `Phase` is its code, every other
operation always. -/
def enabled (i : Instr) (s : State) : Bool :=
  match i.phaseCode? with
  | some code => !s.asleep && s.phase == code
  | none => true

/-- When a pseudo-operation is legal (the last column of R93). -/
def pseudoLegal (p : Pseudo) (s : State) : Bool :=
  match p with
  | .iter => !s.asleep && s.phase == 0#3
  | .press | .release | .fault | .clear => true
  | .tickIter _ => s.phase == 0#3 && s.intEnable

end Sys2Proof.Machine
end

