-- ==== Sys2Proof/Safety.lean ====
section
/-! DEFINITION. What claims are stated in terms of: the reachable states, the invariant of 10_state.md R47 and R48, the events
of a run (qualified press, reopening sample, reset), and premise ENV-1 of 92_eei_decisions.md. -/

namespace Sys2Proof.Machine

/-- The states a run reaches: from reset, with both lines at any level (U6), by any operations in any order (R14, R17), under
any schedule the environment places (log 1). -/
inductive Reachable : State → Prop where
  | reset (btn flt : Level) (waiting : List OpWord) : Reachable (State.resetIn btn flt waiting)
  | op {i : Instr} {s t : State} : Reachable s → exec i s = .next t → Reachable t
  | schedule {s : State} (waiting : List OpWord) : Reachable s → Reachable { s with trace := waiting }

/-- The operation makes the block run `Reset()` (R180): `RST`, or a `TICK` that finds the last one still held. -/
def isReset (i : Instr) (s : State) : Bool := i == .rst || (i == .tick && !s.intEnable && s.tickIrq)

/-- A qualified press (R16): a `BTN` that sets `PressEvent`. -/
def isQualifiedPress (i : Instr) (s : State) : Bool :=
  i == .btn && !s.pressEvent &&
    match exec i s with
    | .next t => t.pressEvent
    | .fault _ => false
    | .refused _ => false

/-- A `BTN` that samples the button released with `age(LastActivity) >= 3` (R113). -/
def isReopening (i : Instr) (s : State) : Bool := i == .btn && enabled i s && !s.pressed && s.gateExpired

/-- A firing that finds the previous one still held: what premise ENV-1 excludes. -/
def isLateTick (i : Instr) (s : State) : Bool := i == .tick && s.tickIrq

/-- Premise ENV-1 (92_eei_decisions.md) along a run. -/
def respectsEnv1 (ops : List Instr) (s : State) : Prop := countAlong isLateTick ops s = 0

/-- No operation of the run resets the block. -/
def noReset (ops : List Instr) (s : State) : Prop := countAlong isReset ops s = 0

/-- A qualified press is applied (R121): an `ACT` with `PressEvent = 1`. -/
def isPressApplied (i : Instr) (s : State) : Bool := i == .act && s.pressEvent

/-- A `FLTPIN` that changes the level of `FLT_N` (R122): the external side moves while the block does not drive. -/
def isLineChange (i : Instr) (s : State) : Bool :=
  match i with
  | .fltpin v => v != s.fltExt && !s.ackPulseActive
  | .tck | .btn | .act | .flt | .ack | .out | .cli | .slp | .tick | .rst | .btnpin _ => false

/-- An operation that is not the sequencer's and does not reset: what may come between two micro-operations of one
iteration (R17, R45). -/
def isBetween (i : Instr) : Bool := i.agent != .sequencer && i != .rst

/-- The firings of the Tick Source in a run. -/
def firings (ops : List Instr) : Nat := ops.count .tick

/-- The firings taken so far, delivered or held, as a tick value. -/
def firedTick (s : State) : TickVal := s.tick + (if s.tickIrq then 1#8 else 0#8)

/-- The phases at which the outputs agree with the state (R47, R48 I9): all but 3, 4 and 5. -/
def settledPhase (p : PhaseCode) : Prop := p = 0#3 ∨ p = 1#3 ∨ p = 2#3 ∨ p = 6#3 ∨ p = 7#3

/-- The invariant of R47 and R48, with the reset-independent facts its proof by induction needs. -/
structure BlockInv (s : State) : Prop where
  /-- I1. -/
  requestedNotLatched : ¬ (s.powerRequested = true ∧ s.faultLatched = true)
  /-- I3. -/
  greenIffEnabled : s.indicator = .green ↔ s.powerEnabled = true
  /-- I4. -/
  pressAtAct : s.pressEvent = true → s.phase = 2#3
  /-- I5, first half. -/
  maskedExactlyAtSlp : s.intEnable = false ↔ s.phase = 7#3
  /-- I5, second half (`IntEnable = 1` follows from the first). -/
  asleepAtBoundary : s.asleep = true → s.phase = 0#3
  /-- I6. -/
  heldAtSlp : s.tickIrq = true ∨ s.pcIrq = true → s.phase = 7#3
  /-- I7. -/
  asleepConsumed : s.asleep = true → s.tickPending = false
  /-- I8. -/
  pressGateClosed : s.pressEvent = true → s.debounceGate = false ∧ s.debouncedButtonState = true
  /-- I9, and the first row of R47. -/
  outputsFollow : settledPhase s.phase →
    s.powerEnabled = s.powerRequested ∧ s.indicator = derivedIndicator s.powerRequested s.faultLatched
  /-- The first row of R47, second half. -/
  enabledNotLatched : s.phase ≠ 4#3 → s.phase ≠ 5#3 → ¬ (s.powerEnabled = true ∧ s.faultLatched = true)
  /-- The second row of R47. -/
  ackLatched : s.phase ≠ 3#3 → s.ackPulseActive = true → s.faultLatched = true
  /-- The table of R120: no power request while the line is driven. -/
  ackNotRequested : s.ackPulseActive = true → s.powerRequested = false
  /-- 95_test_vectors.md section 4. -/
  heldGateClosed : s.debouncedButtonState = true → s.debounceGate = false
  /-- `BTN` writes both sample registers with one value (R23, R24). -/
  samplesAgree : s.rawButtonState = s.debouncedButtonState
  /-- R193: `FaultLineState` is 1 throughout the pulse. -/
  pulseSampled : s.ackPulseActive = true → s.faultLineState = true

/-- All three tick values moved by the same amount (R21: only differences are used). -/
def shiftTicks (k : TickVal) (s : State) : State :=
  { s with tick := s.tick + k, lastActivity := s.lastActivity + k, ackPulseStart := s.ackPulseStart + k }

/-- The two sample registers that no rule reads across operations, set to any values (R23, R29, U5). -/
def withSamples (raw fls : Bit) (s : State) : State := { s with rawButtonState := raw, faultLineState := fls }

/-- The two states differ at most in tick stamps whose guard is off: `LastActivity` while the gate is open (R26) and
`AckPulseStart` while the line is not driven (R32). -/
def sameButStaleStamps (s t : State) : Prop :=
  t = { s with lastActivity := t.lastActivity, ackPulseStart := t.ackPulseStart } ∧
  (s.debounceGate = false → t.lastActivity = s.lastActivity) ∧
  (s.ackPulseActive = true → t.ackPulseStart = s.ackPulseStart)

/-- The outcome with the next state changed by `f`. -/
def mapNext (f : State → State) : Host.Outcome State Fault Refusal → Host.Outcome State Fault Refusal
  | .next s => .next (f s)
  | .fault r => .fault r
  | .refused r => .refused r

end Sys2Proof.Machine
end

