-- ==== Sys2Proof/Certificates/Slice0/Obligations.lean ====
section
/-! DEFINITION. The statements for the provers. Every statement about an instruction gives the whole next state, so it says
result, frame and completion at once; a waiting `trace` (the model's own field, log 1) is left alone by every operation, which
is the model's choice and no rule of the spec (log 13). -/

open Sys2Proof Sys2Proof.Machine

/-! ### Encoding -/

/-- Words written out from the encodings of R82, R83, R84, and one word of each reserved range of R90. -/
def Obligations.DecodeKnownWords : Prop :=
  decode 0b00000000#8 = .ok .tck ∧ decode 0b00000011#8 = .ok .flt ∧ decode 0b00000111#8 = .ok .slp ∧
  decode 0b00010000#8 = .ok .tick ∧ decode 0b00011111#8 = .ok .rst ∧
  decode 0b00100000#8 = .ok (.btnpin false) ∧ decode 0b00100011#8 = .ok (.fltpin true) ∧
  decode 0b00001000#8 = .error (.reservedMicroOp 0x08#8) ∧ decode 0b00011110#8 = .error (.reservedEvent 0x1E#8) ∧
  decode 0b00100100#8 = .error (.reservedPinChange 0x24#8) ∧ decode 0b11111111#8 = .error (.reservedClass 0xFF#8)

/-- R80, R85: a word and its operation determine each other, for single words and for whole traces. -/
def Obligations.EncodingIsExact : Prop :=
  (∀ i : Instr, decode (encode i) = .ok i) ∧
  (∀ (w : OpWord) (i : Instr), decode w = .ok i → encode i = w) ∧
  (∀ is : List Instr, decodeTrace (encodeTrace is) = .ok is) ∧
  (∀ (ws : List OpWord) (is : List Instr), decodeTrace ws = .ok is → encodeTrace is = ws)

/-- R89, R90: exactly the fourteen listed words are operations, they are the words of the match/mask rows, and no word falls
in two rows. -/
def Obligations.DefinedWordsExactly : Prop :=
  ∀ w : OpWord,
    ((∃ i, decode w = .ok i) ↔
      w.toNat ≤ 0x07 ∨ w.toNat = 0x10 ∨ w.toNat = 0x1F ∨ (0x20 ≤ w.toNat ∧ w.toNat ≤ 0x23)) ∧
    ((∃ i, decode w = .ok i) ↔ definedWord w = true) ∧
    (opRows.filter (fun r => r.covers w)).length ≤ 1

/-- R92: a trace written one operation per line reads back as itself. -/
def Obligations.TraceTextRoundTrip : Prop :=
  ∀ is : List Instr, parseTrace? (traceText is) = some is

/-- R93: where a pseudo-operation is legal its expansion runs to the end; an iteration and a row of tick iterations end at an
iteration boundary with interrupts enabled. -/
def Obligations.PseudoOpsComplete : Prop :=
  ∀ (p : Pseudo) (s : State), pseudoLegal p s = true →
    ∃ t, runOps p.expand s = .next t ∧
      (p = .iter ∨ (∃ n, p = .tickIter n) → t.phase = 0#3 ∧ t.intEnable = true)

/-! ### The operations one by one -/

/-- R148, R49: from every state `RST` sets all nineteen fields to the table of R49 and leaves the environment's levels; the
fatal branch of `TICK` does the same; the lines after reset; `State.reset` is that state at power-up. -/
def Obligations.ResetSetsEveryField : Prop :=
  encode .rst = 0x1F#8 ∧
  (∀ s : State, ∃ t, exec .rst s = .next t ∧
    t.tuple = [0, 0, 0, 0, 1, 0, 0, 0, 0, 0, 0, 0, 0, 0, 0, 1, 0, 0, 0] ∧
    t.btnPin = s.btnPin ∧ t.fltExt = s.fltExt ∧
    outLevel .pwrEnN t = true ∧ outLevel .ledA t = false ∧ outLevel .ledB t = false ∧ t.lineMode = .sensingInput ∧
    (s.intEnable = false → s.tickIrq = true → exec .tick s = .next t)) ∧
  State.reset.tuple = [0, 0, 0, 0, 1, 0, 0, 0, 0, 0, 0, 0, 0, 0, 0, 1, 0, 0, 0]

/-- R102, `TCK`. -/
def Obligations.TckConsumesTickFlag : Prop :=
  encode .tck = 0x00#8 ∧
  ∀ s : State,
    (s.asleep = false → s.phase = 0#3 → exec .tck s = .next { s with tickPending := false, phase := 1#3 }) ∧
    (¬(s.asleep = false ∧ s.phase = 0#3) → ∃ r, exec .tck s = .refused r)

/-- R112, `BTN`: the qualified press, the rising edge or held button that only stamps, the released sample that reopens the
gate and the one that does not; the age is the modular difference of R103. -/
def Obligations.BtnFiltersSample : Prop :=
  encode .btn = 0x01#8 ∧
  ∀ s : State,
    (s.asleep = false → s.phase = 1#3 →
      (s.btnPin = false → s.debouncedButtonState = false → s.debounceGate = true →
        exec .btn s = .next { s with
          rawButtonState := true, debouncedButtonState := true, debounceGate := false, pressEvent := true,
          lastActivity := s.tick, phase := 2#3 }) ∧
      (s.btnPin = false → s.debouncedButtonState = true ∨ s.debounceGate = false →
        exec .btn s = .next { s with
          rawButtonState := true, debouncedButtonState := true, lastActivity := s.tick, phase := 2#3 }) ∧
      (s.btnPin = true → 3 ≤ (s.tick.toNat + 256 - s.lastActivity.toNat) % 256 →
        exec .btn s = .next { s with
          rawButtonState := false, debouncedButtonState := false, debounceGate := true, phase := 2#3 }) ∧
      (s.btnPin = true → (s.tick.toNat + 256 - s.lastActivity.toNat) % 256 < 3 →
        exec .btn s = .next { s with rawButtonState := false, debouncedButtonState := false, phase := 2#3 })) ∧
    (¬(s.asleep = false ∧ s.phase = 1#3) → ∃ r, exec .btn s = .refused r)

/-- R121, `ACT`. -/
def Obligations.ActAppliesPress : Prop :=
  encode .act = 0x02#8 ∧
  ∀ s : State,
    (s.asleep = false → s.phase = 2#3 →
      (s.pressEvent = false → exec .act s = .next { s with phase := 3#3 }) ∧
      (s.pressEvent = true → s.faultLatched = true →
        exec .act s = .next { s with pressEvent := false, faultLatched := false, phase := 3#3 }) ∧
      (s.pressEvent = true → s.faultLatched = false →
        exec .act s = .next { s with pressEvent := false, powerRequested := !s.powerRequested, phase := 3#3 })) ∧
    (¬(s.asleep = false ∧ s.phase = 2#3) → ∃ r, exec .act s = .refused r)

/-- R123, `FLT`: the line is active when the external device pulls it low or the block itself does (R63). -/
def Obligations.FltLatchesActiveLine : Prop :=
  encode .flt = 0x03#8 ∧
  ∀ s : State,
    (s.asleep = false → s.phase = 3#3 →
      (s.fltExt = true → s.ackPulseActive = false →
        exec .flt s = .next { s with faultLineState := false, phase := 4#3 }) ∧
      (s.fltExt = false ∨ s.ackPulseActive = true → s.faultLatched = true →
        exec .flt s = .next { s with faultLineState := true, phase := 4#3 }) ∧
      (s.fltExt = false ∨ s.ackPulseActive = true → s.faultLatched = false →
        exec .flt s = .next { s with
          faultLineState := true, powerRequested := false, faultLatched := true, ackPulseActive := true,
          ackPulseStart := s.tick, phase := 4#3 })) ∧
    (¬(s.asleep = false ∧ s.phase = 3#3) → ∃ r, exec .flt s = .refused r)

/-- R124, `ACK`: at age 2 or more the drive ends, and if that raises the line the pin change is delivered (it clears a held
one; the block is awake already). The age is modulo 256 (R103). Read as the pseudocode stands (log 6). -/
def Obligations.AckEndsOldDrive : Prop :=
  encode .ack = 0x04#8 ∧
  ∀ s : State,
    (s.asleep = false → s.phase = 4#3 →
      (s.ackPulseActive = false ∨ (s.tick.toNat + 256 - s.ackPulseStart.toNat) % 256 < 2 →
        exec .ack s = .next { s with phase := 5#3 }) ∧
      (s.ackPulseActive = true → 2 ≤ (s.tick.toNat + 256 - s.ackPulseStart.toNat) % 256 →
        exec .ack s = .next { s with ackPulseActive := false, pcIrq := s.pcIrq && !s.fltExt, phase := 5#3 })) ∧
    (¬(s.asleep = false ∧ s.phase = 4#3) → ∃ r, exec .ack s = .refused r)

/-- R136 and the rows of R137's table, `OUT`, with the lines it drives. -/
def Obligations.OutDerivesOutputs : Prop :=
  encode .out = 0x05#8 ∧
  ∀ s : State,
    (s.asleep = false → s.phase = 5#3 →
      (s.powerRequested = true → ∃ t, exec .out s = .next t ∧
        t = { s with powerEnabled := true, indicator := .green, phase := 6#3 } ∧
        outLevel .pwrEnN t = false ∧ outLevel .ledA t = false ∧ outLevel .ledB t = true) ∧
      (s.powerRequested = false → s.faultLatched = true → ∃ t, exec .out s = .next t ∧
        t = { s with powerEnabled := false, indicator := .red, phase := 6#3 } ∧
        outLevel .pwrEnN t = true ∧ outLevel .ledA t = true ∧ outLevel .ledB t = false) ∧
      (s.powerRequested = false → s.faultLatched = false → ∃ t, exec .out s = .next t ∧
        t = { s with powerEnabled := false, indicator := .off, phase := 6#3 } ∧
        outLevel .pwrEnN t = true ∧ outLevel .ledA t = false ∧ outLevel .ledB t = false)) ∧
    (¬(s.asleep = false ∧ s.phase = 5#3) → ∃ r, exec .out s = .refused r)

/-- R141, `CLI`. -/
def Obligations.CliOpensCriticalRegion : Prop :=
  encode .cli = 0x06#8 ∧
  ∀ s : State,
    (s.asleep = false → s.phase = 6#3 → exec .cli s = .next { s with intEnable := false, phase := 7#3 }) ∧
    (¬(s.asleep = false ∧ s.phase = 6#3) → ∃ r, exec .cli s = .refused r)

/-- R142, R143, `SLP` in closed form: it sleeps exactly when no tick is unconsumed and nothing was held. -/
def Obligations.SlpChecksSleepsDelivers : Prop :=
  encode .slp = 0x07#8 ∧
  ∀ s : State,
    (s.asleep = false → s.phase = 7#3 →
      exec .slp s = .next { s with
        tick := if s.tickIrq then s.tick + 1#8 else s.tick,
        tickPending := s.tickPending || s.tickIrq,
        phase := 0#3, intEnable := true, tickIrq := false, pcIrq := false,
        asleep := !(s.tickPending || s.tickIrq || s.pcIrq) }) ∧
    (¬(s.asleep = false ∧ s.phase = 7#3) → ∃ r, exec .slp s = .refused r)

/-- R101, `TICK`: delivered, held, or the fail-safe reset; in every state. -/
def Obligations.TickFiresOrResets : Prop :=
  encode .tick = 0x10#8 ∧
  ∀ s : State,
    (s.intEnable = true →
      exec .tick s = .next { s with tick := s.tick + 1#8, tickPending := true, tickIrq := false, asleep := false }) ∧
    (s.intEnable = false → s.tickIrq = false → exec .tick s = .next { s with tickIrq := true }) ∧
    (s.intEnable = false → s.tickIrq = true →
      exec .tick s = .next { State.reset with btnPin := s.btnPin, fltExt := s.fltExt, trace := s.trace })

/-- R111, `BTNPIN v`: in every state, asleep or awake, only the level of the line changes. -/
def Obligations.BtnpinSetsOnlyTheLine : Prop :=
  encode (.btnpin false) = 0x20#8 ∧ encode (.btnpin true) = 0x21#8 ∧
  ∀ (v : Level) (s : State), ∃ t, exec (.btnpin v) s = .next t ∧ t = { s with btnPin := v } ∧
    pinRead .btnN t = v ∧ (v = s.btnPin → t = s)

/-- R122, `FLTPIN v`: nothing is raised unless the level of `FLT_N` changes; a change is delivered or held. -/
def Obligations.FltpinRaisesOnChange : Prop :=
  encode (.fltpin false) = 0x22#8 ∧ encode (.fltpin true) = 0x23#8 ∧
  ∀ (v : Level) (s : State),
    (v = s.fltExt → exec (.fltpin v) s = .next s) ∧
    (s.ackPulseActive = true → exec (.fltpin v) s = .next { s with fltExt := v }) ∧
    (v ≠ s.fltExt → s.ackPulseActive = false → s.intEnable = true →
      exec (.fltpin v) s = .next { s with fltExt := v, pcIrq := false, asleep := false }) ∧
    (v ≠ s.fltExt → s.ackPulseActive = false → s.intEnable = false →
      exec (.fltpin v) s = .next { s with fltExt := v, pcIrq := true })

/-! ### Which operations run, and the step -/

/-- R46: (a) the operations that are not the sequencer's are enabled in every state; (b) a micro-operation exactly when awake
and at its phase; (c) awake, exactly one micro-operation; asleep, none. -/
def Obligations.ExactlyTheEnabledOpsRun : Prop :=
  ∀ s : State,
    (∀ i : Instr, i.agent ≠ .sequencer → ∃ t, exec i s = .next t) ∧
    (∀ (i : Instr) (code : PhaseCode), i.phaseCode? = some code →
      ((∃ t, exec i s = .next t) ↔ s.asleep = false ∧ s.phase = code)) ∧
    (s.asleep = false → ∃! i : Instr, i.agent = .sequencer ∧ ∃ t, exec i s = .next t) ∧
    (s.asleep = true → ∀ i : Instr, i.agent = .sequencer → ∃ r, exec i s = .refused r)

/-- R90 with the model's names for the two illegal steps (log 8). -/
def Obligations.UntakeableOpsRefusedByName : Prop :=
  ∀ (i : Instr) (code : PhaseCode) (s : State), i.phaseCode? = some code →
    (s.asleep = true → exec i s = .refused (.notWhileAsleep code)) ∧
    (s.asleep = false → s.phase ≠ code → exec i s = .refused (.outOfPhase code s.phase))

/-- A step with a word waiting runs the operation the word decodes to, the word taken off; a reserved word is refused (log 1). -/
def Obligations.StepRunsDecodedWord : Prop :=
  ∀ (s : State) (w : OpWord) (rest : List OpWord), s.trace = w :: rest →
    (∀ i, decode w = .ok i → step s = exec i { s with trace := rest }) ∧
    (∀ e, decode w = .error e → step s = .refused (.reservedWord e))

/-- With nothing waiting, the step of an awake block is the micro-operation hardwired to its `Phase` and completes; a sleeping
block holds (R44, R46, log 1, log 2). -/
def Obligations.StepRunsHardwiredSequence : Prop :=
  ∀ s : State, s.trace = [] →
    (s.asleep = false → ∃ i t, i.phaseCode? = some s.phase ∧ step s = exec i s ∧ step s = .next t) ∧
    (s.asleep = true → step s = .next s)

/-- A table word placed with `withFetchWord` is what the very next step runs, to a next state, from every state (log 5). -/
def Obligations.PlacedWordRunsNext : Prop :=
  ∀ (i : Instr) (s : State),
    decodeTableWord 8 (encode i).toNat = some i ∧
    ∃ s' t, step (s.withFetchWord 8 (encode i).toNat) = exec i s' ∧ exec i s' = .next t ∧
      s' = { s with phase := s'.phase, asleep := s'.asleep } ∧
      (i.agent ≠ .sequencer → s' = s)

/-- Stepping through a waiting trace is the run of R14 it spells, refusals included: as many steps as operations, and what
waited behind them still waits (log 1). -/
def Obligations.TraceDrivenRunsAreRuns : Prop :=
  ∀ (is : List Instr) (rest : List OpWord) (s : State),
    (Host.Core.run Sys2Proof.core is.length ({ s with trace := encodeTrace is ++ rest } : State) :
      Host.Outcome State Fault Refusal) = runOps is { s with trace := rest }

/-! ### Invariants -/

/-- The invariant holds after reset, whatever the levels of the lines and whatever waits. -/
def Obligations.ResetSatisfiesInv : Prop :=
  ∀ (btn flt : Level) (waiting : List OpWord), BlockInv (State.resetIn btn flt waiting)

/-- Every operation and every step keep the invariant, from every state that has it. -/
def Obligations.EveryStepKeepsInv : Prop :=
  (∀ (i : Instr) (s t : State), BlockInv s → exec i s = .next t → BlockInv t) ∧
  (∀ s t : State, BlockInv s → step s = .next t → BlockInv t)

/-- R48, I1 to I9, each as the rule words it, in every reachable state. -/
def Obligations.ReachableStatesKeepR48 : Prop :=
  ∀ s : State, Reachable s →
    ¬(s.powerRequested = true ∧ s.faultLatched = true) ∧
    s.indicator.code ≠ 0b11#2 ∧
    ((s.indicator = .green ↔ s.powerEnabled = true) ∧ (s.indicator = .red → s.powerEnabled = false)) ∧
    (s.pressEvent = true → s.phase = 2#3) ∧
    ((s.intEnable = false ↔ s.phase = 7#3) ∧ (s.asleep = true → s.phase = 0#3 ∧ s.intEnable = true)) ∧
    (s.tickIrq = true ∨ s.pcIrq = true → s.phase = 7#3) ∧
    (s.asleep = true → s.tickPending = false) ∧
    (s.pressEvent = true → s.debounceGate = false ∧ s.debouncedButtonState = true) ∧
    (s.phase = 0#3 ∨ s.phase = 1#3 ∨ s.phase = 2#3 ∨ s.phase = 6#3 ∨ s.phase = 7#3 →
      s.powerEnabled = s.powerRequested ∧
      s.indicator = (if s.powerRequested then .green else if s.faultLatched then .red else .off))

/-- R47, the first two rows with their phase sets, and on the line: the power-enable line is high (power off) while a fault is
latched, except between `FLT` and `OUT`; steps keep reachability. -/
def Obligations.ReachablePowerOffWhileLatched : Prop :=
  (∀ s : State, Reachable s →
    (s.phase ≠ 4#3 → s.phase ≠ 5#3 → s.faultLatched = true → outLevel .pwrEnN s = true) ∧
    (s.phase ≠ 3#3 → s.ackPulseActive = true → s.faultLatched = true) ∧
    (s.ackPulseActive = true → s.powerRequested = false ∧ s.fltN = false)) ∧
  (∀ s t : State, Reachable s → step s = .next t → Reachable t)

/-! ### Whole-machine rules -/

/-- R51: outside a reset a field changes only in the operations the access matrix lists as writing it. -/
def Obligations.OnlyListedOpsWrite : Prop :=
  ∀ (i : Instr) (s t : State), exec i s = .next t → isReset i s = false →
    (t.tick ≠ s.tick → i = .tick ∨ i = .slp) ∧
    (t.tickPending ≠ s.tickPending → i = .tck ∨ i = .tick ∨ i = .slp) ∧
    (t.rawButtonState ≠ s.rawButtonState → i = .btn) ∧
    (t.debouncedButtonState ≠ s.debouncedButtonState → i = .btn) ∧
    (t.debounceGate ≠ s.debounceGate → i = .btn) ∧
    (t.lastActivity ≠ s.lastActivity → i = .btn) ∧
    (t.pressEvent ≠ s.pressEvent → i = .btn ∨ i = .act) ∧
    (t.powerRequested ≠ s.powerRequested → i = .act ∨ i = .flt) ∧
    (t.faultLineState ≠ s.faultLineState → i = .flt) ∧
    (t.faultLatched ≠ s.faultLatched → i = .act ∨ i = .flt) ∧
    (t.ackPulseActive ≠ s.ackPulseActive → i = .flt ∨ i = .ack) ∧
    (t.ackPulseStart ≠ s.ackPulseStart → i = .flt) ∧
    (t.powerEnabled ≠ s.powerEnabled → i = .out) ∧
    (t.indicator ≠ s.indicator → i = .out) ∧
    (t.phase ≠ s.phase → i.agent = .sequencer) ∧
    (t.intEnable ≠ s.intEnable → i = .cli ∨ i = .slp) ∧
    (t.tickIrq ≠ s.tickIrq → i = .tick ∨ i = .slp) ∧
    (t.pcIrq ≠ s.pcIrq → i = .ack ∨ i = .slp ∨ ∃ v, i = .fltpin v) ∧
    (t.asleep ≠ s.asleep → i = .tick ∨ i = .slp ∨ ∃ v, i = .fltpin v) ∧
    (t.btnPin ≠ s.btnPin → ∃ v, i = .btnpin v) ∧
    (t.fltExt ≠ s.fltExt → ∃ v, i = .fltpin v) ∧
    t.trace = s.trace

/-- R167: a delivery changes `Tick`, `TickPending`, `TickIrq`, `PcIrq`, `Asleep` and nothing else; a non-fatal `TICK` and every
`FLTPIN` complete in every state and leave every field outside those five (and the environment's own `FltExt`) unchanged. -/
def Obligations.InterruptSideFrame : Prop :=
  (∀ (src : IrqSource) (s : State),
    deliver src s = { s with
      tick := (deliver src s).tick, tickPending := (deliver src s).tickPending, tickIrq := (deliver src s).tickIrq,
      pcIrq := (deliver src s).pcIrq, asleep := (deliver src s).asleep }) ∧
  (∀ s : State, isReset .tick s = false → ∃ t, exec .tick s = .next t ∧
    t = { s with
      tick := t.tick, tickPending := t.tickPending, tickIrq := t.tickIrq, pcIrq := t.pcIrq, asleep := t.asleep }) ∧
  (∀ (v : Level) (s : State), ∃ t, exec (.fltpin v) s = .next t ∧
    t = { s with
      tick := t.tick, tickPending := t.tickPending, tickIrq := t.tickIrq, pcIrq := t.pcIrq, asleep := t.asleep,
      fltExt := v })

/-- R45: every micro-operation ends with `Phase + 1` modulo 8; `TICK`, `BTNPIN`, `FLTPIN` leave `Phase`; a reset sets it to 0. -/
def Obligations.PhaseAdvancesModEight : Prop :=
  ∀ (i : Instr) (s t : State), exec i s = .next t →
    (i.agent = .sequencer → t.phase.toNat = (s.phase.toNat + 1) % 8) ∧
    (i.agent ≠ .sequencer → isReset i s = false → t.phase = s.phase) ∧
    (isReset i s = true → t.phase = 0#3)

/-- R150, R174: with interrupts enabled (as in every reachable sleeping state) an operation that does not wake a sleeping
block changes nothing but the environment's levels; it is woken only by a tick, a change of `FLT_N`, or reset. -/
def Obligations.SleepHoldsAllFields : Prop :=
  ∀ (i : Instr) (s t : State), s.asleep = true → s.intEnable = true → exec i s = .next t →
    (t.asleep = true → t = { s with btnPin := t.btnPin, fltExt := t.fltExt }) ∧
    (t.asleep = false ↔ i = .tick ∨ isLineChange i s = true ∨ i = .rst)

/-- R38, R174: the block falls asleep only in `SLP`, with no unconsumed tick and nothing held. -/
def Obligations.SleepEnteredOnlyBySlp : Prop :=
  ∀ (i : Instr) (s t : State), s.asleep = false → exec i s = .next t →
    (t.asleep = true ↔ i = .slp ∧ s.tickPending = false ∧ s.tickIrq = false ∧ s.pcIrq = false)

/-- R144, R145, R163: a latch is set only by its raise while interrupts are disabled, and cleared only by a delivery or by reset.
With the invariant, where `ACK` runs with interrupts enabled, so that R124 and R144 agree (log 6), that is said exactly: `PcIrq`
is set by a masked change of `FLT_N` and by nothing else, and a set latch is cleared by `SLP` and by a reset and by nothing else. -/
def Obligations.LatchesSetOnlyWhileMasked : Prop :=
  ∀ (i : Instr) (s t : State), exec i s = .next t →
    (s.tickIrq = false → (t.tickIrq = true ↔ i = .tick ∧ s.intEnable = false)) ∧
    (s.tickIrq = true → t.tickIrq = false → i = .slp ∨ (i = .tick ∧ s.intEnable = true) ∨ isReset i s = true) ∧
    (s.pcIrq = true → t.pcIrq = false →
      i = .slp ∨ i = .ack ∨ (isLineChange i s = true ∧ s.intEnable = true) ∨ isReset i s = true) ∧
    (BlockInv s →
      (s.pcIrq = false → (t.pcIrq = true ↔ isLineChange i s = true ∧ s.intEnable = false)) ∧
      (s.tickIrq = true → (t.tickIrq = false ↔ i = .slp ∨ isReset i s = true)) ∧
      (s.pcIrq = true → (t.pcIrq = false ↔ i = .slp ∨ isReset i s = true)))

/-- R120, R125, R127: in states with the invariant, every change of the fault latch's state is one of the listed transitions,
made by the listed operation under the listed condition. -/
def Obligations.FaultLatchTransitions : Prop :=
  ∀ (i : Instr) (s t : State), BlockInv s → exec i s = .next t → isReset i s = false → t.latchState ≠ s.latchState →
    (s.latchState = .sensing ∧ t.latchState = .acknowledging ∧ i = .flt ∧ s.fltN = false) ∨
    (s.latchState = .acknowledging ∧ t.latchState = .latched ∧ i = .ack ∧
      2 ≤ (s.tick.toNat + 256 - s.ackPulseStart.toNat) % 256) ∨
    (s.latchState = .latched ∧ t.latchState = .sensing ∧ i = .act ∧ s.pressEvent = true) ∨
    (s.latchState = .acknowledging ∧ t.latchState = .orphan ∧ i = .act ∧ s.pressEvent = true) ∨
    (s.latchState = .orphan ∧ t.latchState = .acknowledging ∧ i = .flt)

/-! ### The fault latch over runs -/

/-- R30: a latched fault persists, whatever the line does, until a press is applied or the block is reset. -/
def Obligations.FaultMemoryPersists : Prop :=
  ∀ (ops : List Instr) (s t : State), s.faultLatched = true → countAlong isPressApplied ops s = 0 → noReset ops s →
    runOps ops s = .next t → t.faultLatched = true

/-- R123 and DOC00's testable property: once `FLT` reads the line active, `PowerRequested` is 0 and stays 0 until a press is
applied, whatever the line does later. The premise that a request and a latched fault do not stand together is R48 I1. -/
def Obligations.PowerStaysOffUntilPress : Prop :=
  ∀ (ops : List Instr) (s t : State), s.fltN = false → ¬(s.powerRequested = true ∧ s.faultLatched = true) →
    countAlong isPressApplied (.flt :: ops) s = 0 → runOps (.flt :: ops) s = .next t → t.powerRequested = false

/-- R126: while the fault stays latched no new pulse starts and the stamp of the old one stays. -/
def Obligations.NoRetriggerWhileLatched : Prop :=
  ∀ (ops : List Instr) (s t : State), s.faultLatched = true → countAlong isPressApplied ops s = 0 → noReset ops s →
    runOps ops s = .next t →
    t.ackPulseStart = s.ackPulseStart ∧ (s.ackPulseActive = false → t.ackPulseActive = false)

/-- R127, R128: a clearing press while the external device still pulls the line low, or during the pulse whatever the device
does, is followed by a new latch and a restarted pulse two micro-operations later; the press is used up. -/
def Obligations.ClearingPressRelatches : Prop :=
  ∀ s : State, s.asleep = false → s.phase = 2#3 → s.pressEvent = true → s.faultLatched = true →
    s.fltExt = false ∨ s.ackPulseActive = true →
    runOps [.act, .flt] s = .next { s with
      pressEvent := false, powerRequested := false, faultLineState := true, ackPulseActive := true,
      ackPulseStart := s.tick, phase := 4#3 }

/-- R195, R123: an iteration whose `FLT` latches has power off and the indicator Red at the end of its `OUT`, whatever ticks
and pin changes fall in between; `PWR_EN_N` is high. -/
def Obligations.FaultCutsPowerInIteration : Prop :=
  ∀ (e₁ e₂ : List Instr) (s t : State), e₁.all isBetween = true → e₂.all isBetween = true →
    s.fltN = false → s.faultLatched = false → noReset (.flt :: e₁ ++ .ack :: e₂ ++ [.out]) s →
    runOps (.flt :: e₁ ++ .ack :: e₂ ++ [.out]) s = .next t →
    t.powerRequested = false ∧ t.faultLatched = true ∧ t.powerEnabled = false ∧ t.indicator = .red ∧
      outLevel .pwrEnN t = true ∧ t.phase = 6#3

/-- R129: from a latching `FLT` the line stays driven low for as long as fewer than two firings have come, whatever else
happens but `RST`: a press during the pulse only restarts it. -/
def Obligations.PulseSpansTwoFirings : Prop :=
  ∀ (ops : List Instr) (s t : State), s.fltN = false → s.faultLatched = false → s.tickIrq = false →
    firings ops ≤ 1 → Instr.rst ∉ ops → runOps (.flt :: ops) s = .next t →
    t.ackPulseActive = true ∧ t.fltN = false

/-! ### The debounce filter over runs -/

/-- R113: along any run, from any state, there are no more qualified presses than reopening samples and resets, and one more
if the gate starts open. -/
def Obligations.DebounceGuarantee : Prop :=
  ∀ (ops : List Instr) (s : State),
    countAlong isQualifiedPress ops s ≤
      countAlong isReopening ops s + countAlong isReset ops s + (if s.debounceGate then 1 else 0)

/-- R115: while the button is held the gate stays closed and no press qualifies, however many ticks pass. -/
def Obligations.HeldButtonKeepsGateClosed : Prop :=
  ∀ (ops : List Instr) (s t : State), s.btnPin = false → s.debounceGate = false → Instr.btnpin true ∉ ops →
    noReset ops s → runOps ops s = .next t →
    t.debounceGate = false ∧ countAlong isQualifiedPress ops s = 0

/-! ### Ticks, sleep and the critical region over runs -/

/-- No firing is lost (R71, R72): under ENV-1 and without `RST`, delivered and held firings together advance by exactly the
number of `TICK`s, modulo 256. -/
def Obligations.NoFiringIsLost : Prop :=
  ∀ (ops : List Instr) (s t : State), respectsEnv1 ops s → Instr.rst ∉ ops → runOps ops s = .next t →
    firedTick t = firedTick s + BitVec.ofNat 8 (firings ops)

/-- R22, R72: until `TCK` consumes it, a firing is remembered by the sticky flag or by the latch. -/
def Obligations.FiringRememberedUntilConsumed : Prop :=
  ∀ (ops : List Instr) (s t : State), Instr.tck ∉ ops → noReset ops s → runOps ops s = .next t →
    1 ≤ firings ops ∨ s.tickPending = true ∨ s.tickIrq = true → t.tickPending = true ∨ t.tickIrq = true

/-- R142, R145, R187: from inside the critical region, with any events in between (at most one firing), `SLP` sleeps exactly
if no tick was unconsumed, none fired and the fault line did not change; every firing is in `Tick`. -/
def Obligations.HeldInterruptEndsSleep : Prop :=
  ∀ (events : List Instr) (s : State), s.asleep = false → s.phase = 7#3 → s.intEnable = false →
    s.tickIrq = false → s.pcIrq = false → events.all isBetween = true → firings events ≤ 1 →
    ∃ t, runOps (events ++ [.slp]) s = .next t ∧
      (t.asleep = true ↔ s.tickPending = false ∧ firings events = 0 ∧ countAlong isLineChange events s = 0) ∧
      t.tick = s.tick + BitVec.ofNat 8 (firings events) ∧
      t.tickIrq = false ∧ t.pcIrq = false ∧ t.intEnable = true ∧ t.phase = 0#3

/-- Premise ENV-1 makes the fail-safe reset unreachable: without `RST` such a run has no reset, and every `TICK` in it is
delivered or held, whole next state, and counts once in `Tick` and the latch together (R101, R104). -/
def Obligations.Env1ExcludesFailSafeReset : Prop :=
  (∀ (ops : List Instr) (s : State), respectsEnv1 ops s → Instr.rst ∉ ops → noReset ops s) ∧
  (∀ (before after : List Instr) (s u : State), respectsEnv1 (before ++ .tick :: after) s →
    runOps before s = .next u →
    ∃ t, exec .tick u = .next t ∧
      (u.intEnable = true →
        t = { u with tick := u.tick + 1#8, tickPending := true, tickIrq := false, asleep := false }) ∧
      (u.intEnable = false → t = { u with tickIrq := true }) ∧
      firedTick t = firedTick u + 1#8)

/-- R190: a fault edge after the sample and before `CLI`, that is at phase 4, 5 or 6, leaves the block to fall asleep at the end
of its iteration with the line low, the fault not latched and the outputs as requested (as `OUT` left them, where it has run);
the iteration after the next tick latches it and cuts the power. -/
def Obligations.LateFaultEdgeWaitsOneTick : Prop :=
  ∀ s : State, s.asleep = false → s.phase = 4#3 ∨ s.phase = 5#3 ∨ s.phase = 6#3 → s.intEnable = true →
    s.tickPending = false → s.tickIrq = false → s.faultLatched = false → s.ackPulseActive = false → s.fltExt = true →
    ∃ t u, runOps (.fltpin false :: iterOps.drop s.phase.toNat) s = .next t ∧
      t.asleep = true ∧ t.fltN = false ∧ t.faultLatched = false ∧ t.powerRequested = s.powerRequested ∧
      (s.phase ≠ 6#3 → t.powerEnabled = s.powerRequested) ∧ (s.phase = 6#3 → t.powerEnabled = s.powerEnabled) ∧
      runOps (.tick :: iterOps) t = .next u ∧
      u.faultLatched = true ∧ u.powerRequested = false ∧ u.powerEnabled = false ∧ u.indicator = .red

/-- R182, R183, R184: the first iteration after reset, for all four pairs of levels: it ends asleep; a held button turns the
power on unless the fault line is low; a low fault line is latched and acknowledged. -/
def Obligations.FirstIterationFromReset : Prop :=
  ∀ (btn flt : Level) (waiting : List OpWord),
    runOps iterOps (State.resetIn btn flt waiting) = .next { State.resetIn btn flt waiting with
      rawButtonState := !btn, debouncedButtonState := !btn, debounceGate := btn,
      powerRequested := !btn && flt, faultLineState := !flt, faultLatched := !flt, ackPulseActive := !flt,
      powerEnabled := !btn && flt,
      indicator := if flt then (if btn then .off else .green) else .red,
      asleep := true }

/-- R197: after one whole iteration a second one, woken with the same lines and the same `Tick`, changes no field but
`FaultLineState`, and that only from 1 to 0 in the iteration after the one whose `ACK` ended the drive of a released line. -/
def Obligations.ExtraIterationHarmless : Prop :=
  ∀ (flag : Bit) (s : State), BlockInv s → s.asleep = false → s.phase = 0#3 →
    ∃ t u, runOps iterOps s = .next t ∧ runOps iterOps { t with asleep := false, tickPending := flag } = .next u ∧
      u = { t with faultLineState := u.faultLineState } ∧
      (u.faultLineState ≠ t.faultLineState →
        t.faultLineState = true ∧ s.ackPulseActive = true ∧ t.ackPulseActive = false ∧ s.fltExt = true)

/-- R174, R182: left alone, an awake block reaches sleep within fifteen steps: the rest of its iteration and at most one more. -/
def Obligations.AwakeBlockFallsAsleep : Prop :=
  ∀ s : State, BlockInv s → s.asleep = false → s.trace = [] →
    ∃ (k : Nat) (t : State), 1 ≤ k ∧ k ≤ 15 ∧
      (Host.Core.run Sys2Proof.core k s : Host.Outcome State Fault Refusal) = .next t ∧ t.asleep = true

/-! ### What cannot be observed -/

/-- R21: only differences of tick values matter: moving `Tick` and both stamps by one amount commutes with every operation
that does not reset. -/
def Obligations.OnlyTickDifferencesMatter : Prop :=
  ∀ (k : TickVal) (i : Instr) (s : State), isReset i s = false →
    exec i (shiftTicks k s) = mapNext (shiftTicks k) (exec i s)

/-- R23, R29, U5: no operation reads the sample registers left by an earlier one: states that differ only in them have
outcomes that differ at most in them. -/
def Obligations.SampleRegistersUnobservable : Prop :=
  ∀ (raw fls raw' fls' : Bit) (i : Instr) (s : State),
    mapNext (withSamples raw fls) (exec i (withSamples raw' fls' s)) = mapNext (withSamples raw fls) (exec i s)

/-- R26, R32: a stamp whose guard is off changes no later state but itself: states that differ only so stay so, operation by
operation. -/
def Obligations.StaleStampsUnobservable : Prop :=
  ∀ (i : Instr) (s s' t : State), sameButStaleStamps s s' → exec i s = .next t →
    ∃ t', exec i s' = .next t' ∧ sameButStaleStamps t t'

/-- R138 (a), (c): the outputs after `OUT` depend on `(PowerRequested, FaultLatched)` only, and never show both colours. -/
def Obligations.OutputsPureAndIdempotent : Prop :=
  (∀ s s' t t' : State, exec .out s = .next t → exec .out s' = .next t' →
    s.powerRequested = s'.powerRequested → s.faultLatched = s'.faultLatched →
    t.powerEnabled = t'.powerEnabled ∧ t.indicator = t'.indicator ∧
      ∀ p : OutPin, outLevel p t = outLevel p t') ∧
  (∀ s : State, ¬(outLevel .ledA s = true ∧ outLevel .ledB s = true))

/-! ### Lines, arithmetic, written form -/

/-- R41, R87: the levels of the three output lines and the mode of the fault line. -/
def Obligations.OutputLinesFollowFields : Prop :=
  ∀ s : State,
    (outLevel .pwrEnN s = false ↔ s.powerEnabled = true) ∧
    outLevel .ledA s = s.indicator.code.getLsbD 0 ∧ outLevel .ledB s = s.indicator.code.getLsbD 1 ∧
    (outLevel .ledA s = true ↔ s.indicator = .red) ∧ (outLevel .ledB s = true ↔ s.indicator = .green) ∧
    (s.lineMode = .drivingLow ↔ s.ackPulseActive = true)

/-- R62, R63: the button line is the environment's level; the fault line is the AND of the external output and of the block
not driving; a line the block drives is read as active whatever the device does. -/
def Obligations.FaultLineIsWiredAnd : Prop :=
  ∀ s : State,
    pinRead .btnN s = s.btnPin ∧
    (pinRead .fltN s = true ↔ s.fltExt = true ∧ s.ackPulseActive = false) ∧
    (s.ackPulseActive = true → pinRead .fltN s = false)

/-- R12, R103: the increment and the age as numbers modulo 256, and the age of a stamp `n` ticks old for `n` below 256. -/
def Obligations.AgeIsModular : Prop :=
  (∀ t : TickVal, (nextTick t).toNat = (t.toNat + 1) % 256) ∧
  (∀ now since : TickVal, (ageOf now since).toNat = (now.toNat + 256 - since.toNat) % 256) ∧
  (∀ (since : TickVal) (n : Nat), n < 256 → (ageOf (since + BitVec.ofNat 8 n) since).toNat = n)

/-- R20, R34: the nineteen numbers of a state are well formed and read back as the state, and what is read back is what was
written. -/
def Obligations.TupleRoundTrip : Prop :=
  (∀ s : State, wfTuple s.tuple = true ∧
    State.ofTuple? s.tuple s.btnPin s.fltExt = some { s with trace := [] }) ∧
  (∀ (vs : List Nat) (btn flt : Level) (s : State), State.ofTuple? vs btn flt = some s →
    s.tuple = vs ∧ s.btnPin = btn ∧ s.fltExt = flt)

/-- R124, R144 (log 6): where the invariant holds the pin change `ACK` raises is invisible, so that raising it and delivering
it at once are the same: `ACK` changes no field but `AckPulseActive` and `Phase`. -/
def Obligations.AckPinChangeInvisible : Prop :=
  ∀ s t : State, BlockInv s → exec .ack s = .next t →
    t = { s with ackPulseActive := t.ackPulseActive, phase := 5#3 } ∧
    (s.ackPulseActive = true → t.ackPulseActive = false → raiseIrq .pc t = t)
end

