-- ==== Sys2Proof/Laws/State.lean ====
section
/-! SUPPORT. One lemma per field per named update of the state, each true by `rfl`. -/

namespace Sys2Proof.Laws

open Sys2Proof.Machine

/-! ### `advance` -/

@[simp] theorem advance_tick (s : State) : (advance s).tick = s.tick := rfl
@[simp] theorem advance_tickPending (s : State) : (advance s).tickPending = s.tickPending := rfl
@[simp] theorem advance_rawButtonState (s : State) : (advance s).rawButtonState = s.rawButtonState := rfl
@[simp] theorem advance_debouncedButtonState (s : State) : (advance s).debouncedButtonState = s.debouncedButtonState := rfl
@[simp] theorem advance_debounceGate (s : State) : (advance s).debounceGate = s.debounceGate := rfl
@[simp] theorem advance_lastActivity (s : State) : (advance s).lastActivity = s.lastActivity := rfl
@[simp] theorem advance_pressEvent (s : State) : (advance s).pressEvent = s.pressEvent := rfl
@[simp] theorem advance_powerRequested (s : State) : (advance s).powerRequested = s.powerRequested := rfl
@[simp] theorem advance_faultLineState (s : State) : (advance s).faultLineState = s.faultLineState := rfl
@[simp] theorem advance_faultLatched (s : State) : (advance s).faultLatched = s.faultLatched := rfl
@[simp] theorem advance_ackPulseActive (s : State) : (advance s).ackPulseActive = s.ackPulseActive := rfl
@[simp] theorem advance_ackPulseStart (s : State) : (advance s).ackPulseStart = s.ackPulseStart := rfl
@[simp] theorem advance_powerEnabled (s : State) : (advance s).powerEnabled = s.powerEnabled := rfl
@[simp] theorem advance_indicator (s : State) : (advance s).indicator = s.indicator := rfl
@[simp] theorem advance_phase (s : State) : (advance s).phase = s.phase + 1#3 := rfl
@[simp] theorem advance_intEnable (s : State) : (advance s).intEnable = s.intEnable := rfl
@[simp] theorem advance_tickIrq (s : State) : (advance s).tickIrq = s.tickIrq := rfl
@[simp] theorem advance_pcIrq (s : State) : (advance s).pcIrq = s.pcIrq := rfl
@[simp] theorem advance_asleep (s : State) : (advance s).asleep = s.asleep := rfl
@[simp] theorem advance_btnPin (s : State) : (advance s).btnPin = s.btnPin := rfl
@[simp] theorem advance_fltExt (s : State) : (advance s).fltExt = s.fltExt := rfl
@[simp] theorem advance_trace (s : State) : (advance s).trace = s.trace := rfl

/-! ### `deliver_tick` -/

@[simp] theorem deliver_tick_tick (s : State) : (deliver .tick s).tick = nextTick s.tick := rfl
@[simp] theorem deliver_tick_tickPending (s : State) : (deliver .tick s).tickPending = true := rfl
@[simp] theorem deliver_tick_rawButtonState (s : State) : (deliver .tick s).rawButtonState = s.rawButtonState := rfl
@[simp] theorem deliver_tick_debouncedButtonState (s : State) : (deliver .tick s).debouncedButtonState = s.debouncedButtonState := rfl
@[simp] theorem deliver_tick_debounceGate (s : State) : (deliver .tick s).debounceGate = s.debounceGate := rfl
@[simp] theorem deliver_tick_lastActivity (s : State) : (deliver .tick s).lastActivity = s.lastActivity := rfl
@[simp] theorem deliver_tick_pressEvent (s : State) : (deliver .tick s).pressEvent = s.pressEvent := rfl
@[simp] theorem deliver_tick_powerRequested (s : State) : (deliver .tick s).powerRequested = s.powerRequested := rfl
@[simp] theorem deliver_tick_faultLineState (s : State) : (deliver .tick s).faultLineState = s.faultLineState := rfl
@[simp] theorem deliver_tick_faultLatched (s : State) : (deliver .tick s).faultLatched = s.faultLatched := rfl
@[simp] theorem deliver_tick_ackPulseActive (s : State) : (deliver .tick s).ackPulseActive = s.ackPulseActive := rfl
@[simp] theorem deliver_tick_ackPulseStart (s : State) : (deliver .tick s).ackPulseStart = s.ackPulseStart := rfl
@[simp] theorem deliver_tick_powerEnabled (s : State) : (deliver .tick s).powerEnabled = s.powerEnabled := rfl
@[simp] theorem deliver_tick_indicator (s : State) : (deliver .tick s).indicator = s.indicator := rfl
@[simp] theorem deliver_tick_phase (s : State) : (deliver .tick s).phase = s.phase := rfl
@[simp] theorem deliver_tick_intEnable (s : State) : (deliver .tick s).intEnable = s.intEnable := rfl
@[simp] theorem deliver_tick_tickIrq (s : State) : (deliver .tick s).tickIrq = false := rfl
@[simp] theorem deliver_tick_pcIrq (s : State) : (deliver .tick s).pcIrq = s.pcIrq := rfl
@[simp] theorem deliver_tick_asleep (s : State) : (deliver .tick s).asleep = false := rfl
@[simp] theorem deliver_tick_btnPin (s : State) : (deliver .tick s).btnPin = s.btnPin := rfl
@[simp] theorem deliver_tick_fltExt (s : State) : (deliver .tick s).fltExt = s.fltExt := rfl
@[simp] theorem deliver_tick_trace (s : State) : (deliver .tick s).trace = s.trace := rfl

/-! ### `deliver_pc` -/

@[simp] theorem deliver_pc_tick (s : State) : (deliver .pc s).tick = s.tick := rfl
@[simp] theorem deliver_pc_tickPending (s : State) : (deliver .pc s).tickPending = s.tickPending := rfl
@[simp] theorem deliver_pc_rawButtonState (s : State) : (deliver .pc s).rawButtonState = s.rawButtonState := rfl
@[simp] theorem deliver_pc_debouncedButtonState (s : State) : (deliver .pc s).debouncedButtonState = s.debouncedButtonState := rfl
@[simp] theorem deliver_pc_debounceGate (s : State) : (deliver .pc s).debounceGate = s.debounceGate := rfl
@[simp] theorem deliver_pc_lastActivity (s : State) : (deliver .pc s).lastActivity = s.lastActivity := rfl
@[simp] theorem deliver_pc_pressEvent (s : State) : (deliver .pc s).pressEvent = s.pressEvent := rfl
@[simp] theorem deliver_pc_powerRequested (s : State) : (deliver .pc s).powerRequested = s.powerRequested := rfl
@[simp] theorem deliver_pc_faultLineState (s : State) : (deliver .pc s).faultLineState = s.faultLineState := rfl
@[simp] theorem deliver_pc_faultLatched (s : State) : (deliver .pc s).faultLatched = s.faultLatched := rfl
@[simp] theorem deliver_pc_ackPulseActive (s : State) : (deliver .pc s).ackPulseActive = s.ackPulseActive := rfl
@[simp] theorem deliver_pc_ackPulseStart (s : State) : (deliver .pc s).ackPulseStart = s.ackPulseStart := rfl
@[simp] theorem deliver_pc_powerEnabled (s : State) : (deliver .pc s).powerEnabled = s.powerEnabled := rfl
@[simp] theorem deliver_pc_indicator (s : State) : (deliver .pc s).indicator = s.indicator := rfl
@[simp] theorem deliver_pc_phase (s : State) : (deliver .pc s).phase = s.phase := rfl
@[simp] theorem deliver_pc_intEnable (s : State) : (deliver .pc s).intEnable = s.intEnable := rfl
@[simp] theorem deliver_pc_tickIrq (s : State) : (deliver .pc s).tickIrq = s.tickIrq := rfl
@[simp] theorem deliver_pc_pcIrq (s : State) : (deliver .pc s).pcIrq = false := rfl
@[simp] theorem deliver_pc_asleep (s : State) : (deliver .pc s).asleep = false := rfl
@[simp] theorem deliver_pc_btnPin (s : State) : (deliver .pc s).btnPin = s.btnPin := rfl
@[simp] theorem deliver_pc_fltExt (s : State) : (deliver .pc s).fltExt = s.fltExt := rfl
@[simp] theorem deliver_pc_trace (s : State) : (deliver .pc s).trace = s.trace := rfl

/-! ### `setDrive` -/

@[simp] theorem setDrive_tick (b : Bit) (s : State) : (setDrive b s).tick = s.tick := rfl
@[simp] theorem setDrive_tickPending (b : Bit) (s : State) : (setDrive b s).tickPending = s.tickPending := rfl
@[simp] theorem setDrive_rawButtonState (b : Bit) (s : State) : (setDrive b s).rawButtonState = s.rawButtonState := rfl
@[simp] theorem setDrive_debouncedButtonState (b : Bit) (s : State) : (setDrive b s).debouncedButtonState = s.debouncedButtonState := rfl
@[simp] theorem setDrive_debounceGate (b : Bit) (s : State) : (setDrive b s).debounceGate = s.debounceGate := rfl
@[simp] theorem setDrive_lastActivity (b : Bit) (s : State) : (setDrive b s).lastActivity = s.lastActivity := rfl
@[simp] theorem setDrive_pressEvent (b : Bit) (s : State) : (setDrive b s).pressEvent = s.pressEvent := rfl
@[simp] theorem setDrive_powerRequested (b : Bit) (s : State) : (setDrive b s).powerRequested = s.powerRequested := rfl
@[simp] theorem setDrive_faultLineState (b : Bit) (s : State) : (setDrive b s).faultLineState = s.faultLineState := rfl
@[simp] theorem setDrive_faultLatched (b : Bit) (s : State) : (setDrive b s).faultLatched = s.faultLatched := rfl
@[simp] theorem setDrive_ackPulseActive (b : Bit) (s : State) : (setDrive b s).ackPulseActive = b := rfl
@[simp] theorem setDrive_ackPulseStart (b : Bit) (s : State) : (setDrive b s).ackPulseStart = s.ackPulseStart := rfl
@[simp] theorem setDrive_powerEnabled (b : Bit) (s : State) : (setDrive b s).powerEnabled = s.powerEnabled := rfl
@[simp] theorem setDrive_indicator (b : Bit) (s : State) : (setDrive b s).indicator = s.indicator := rfl
@[simp] theorem setDrive_phase (b : Bit) (s : State) : (setDrive b s).phase = s.phase := rfl
@[simp] theorem setDrive_intEnable (b : Bit) (s : State) : (setDrive b s).intEnable = s.intEnable := rfl
@[simp] theorem setDrive_tickIrq (b : Bit) (s : State) : (setDrive b s).tickIrq = s.tickIrq := rfl
@[simp] theorem setDrive_pcIrq (b : Bit) (s : State) : (setDrive b s).pcIrq = s.pcIrq := rfl
@[simp] theorem setDrive_asleep (b : Bit) (s : State) : (setDrive b s).asleep = s.asleep := rfl
@[simp] theorem setDrive_btnPin (b : Bit) (s : State) : (setDrive b s).btnPin = s.btnPin := rfl
@[simp] theorem setDrive_fltExt (b : Bit) (s : State) : (setDrive b s).fltExt = s.fltExt := rfl
@[simp] theorem setDrive_trace (b : Bit) (s : State) : (setDrive b s).trace = s.trace := rfl

/-! ### `driveOutputs` -/

@[simp] theorem driveOutputs_tick (b : Bit) (d : Indicator) (s : State) : (driveOutputs b d s).tick = s.tick := rfl
@[simp] theorem driveOutputs_tickPending (b : Bit) (d : Indicator) (s : State) : (driveOutputs b d s).tickPending = s.tickPending := rfl
@[simp] theorem driveOutputs_rawButtonState (b : Bit) (d : Indicator) (s : State) : (driveOutputs b d s).rawButtonState = s.rawButtonState := rfl
@[simp] theorem driveOutputs_debouncedButtonState (b : Bit) (d : Indicator) (s : State) : (driveOutputs b d s).debouncedButtonState = s.debouncedButtonState := rfl
@[simp] theorem driveOutputs_debounceGate (b : Bit) (d : Indicator) (s : State) : (driveOutputs b d s).debounceGate = s.debounceGate := rfl
@[simp] theorem driveOutputs_lastActivity (b : Bit) (d : Indicator) (s : State) : (driveOutputs b d s).lastActivity = s.lastActivity := rfl
@[simp] theorem driveOutputs_pressEvent (b : Bit) (d : Indicator) (s : State) : (driveOutputs b d s).pressEvent = s.pressEvent := rfl
@[simp] theorem driveOutputs_powerRequested (b : Bit) (d : Indicator) (s : State) : (driveOutputs b d s).powerRequested = s.powerRequested := rfl
@[simp] theorem driveOutputs_faultLineState (b : Bit) (d : Indicator) (s : State) : (driveOutputs b d s).faultLineState = s.faultLineState := rfl
@[simp] theorem driveOutputs_faultLatched (b : Bit) (d : Indicator) (s : State) : (driveOutputs b d s).faultLatched = s.faultLatched := rfl
@[simp] theorem driveOutputs_ackPulseActive (b : Bit) (d : Indicator) (s : State) : (driveOutputs b d s).ackPulseActive = s.ackPulseActive := rfl
@[simp] theorem driveOutputs_ackPulseStart (b : Bit) (d : Indicator) (s : State) : (driveOutputs b d s).ackPulseStart = s.ackPulseStart := rfl
@[simp] theorem driveOutputs_powerEnabled (b : Bit) (d : Indicator) (s : State) : (driveOutputs b d s).powerEnabled = b := rfl
@[simp] theorem driveOutputs_indicator (b : Bit) (d : Indicator) (s : State) : (driveOutputs b d s).indicator = d := rfl
@[simp] theorem driveOutputs_phase (b : Bit) (d : Indicator) (s : State) : (driveOutputs b d s).phase = s.phase := rfl
@[simp] theorem driveOutputs_intEnable (b : Bit) (d : Indicator) (s : State) : (driveOutputs b d s).intEnable = s.intEnable := rfl
@[simp] theorem driveOutputs_tickIrq (b : Bit) (d : Indicator) (s : State) : (driveOutputs b d s).tickIrq = s.tickIrq := rfl
@[simp] theorem driveOutputs_pcIrq (b : Bit) (d : Indicator) (s : State) : (driveOutputs b d s).pcIrq = s.pcIrq := rfl
@[simp] theorem driveOutputs_asleep (b : Bit) (d : Indicator) (s : State) : (driveOutputs b d s).asleep = s.asleep := rfl
@[simp] theorem driveOutputs_btnPin (b : Bit) (d : Indicator) (s : State) : (driveOutputs b d s).btnPin = s.btnPin := rfl
@[simp] theorem driveOutputs_fltExt (b : Bit) (d : Indicator) (s : State) : (driveOutputs b d s).fltExt = s.fltExt := rfl
@[simp] theorem driveOutputs_trace (b : Bit) (d : Indicator) (s : State) : (driveOutputs b d s).trace = s.trace := rfl

/-! ### `resetBlock` -/

@[simp] theorem resetBlock_tick (s : State) : (resetBlock s).tick = 0#8 := rfl
@[simp] theorem resetBlock_tickPending (s : State) : (resetBlock s).tickPending = false := rfl
@[simp] theorem resetBlock_rawButtonState (s : State) : (resetBlock s).rawButtonState = false := rfl
@[simp] theorem resetBlock_debouncedButtonState (s : State) : (resetBlock s).debouncedButtonState = false := rfl
@[simp] theorem resetBlock_debounceGate (s : State) : (resetBlock s).debounceGate = true := rfl
@[simp] theorem resetBlock_lastActivity (s : State) : (resetBlock s).lastActivity = 0#8 := rfl
@[simp] theorem resetBlock_pressEvent (s : State) : (resetBlock s).pressEvent = false := rfl
@[simp] theorem resetBlock_powerRequested (s : State) : (resetBlock s).powerRequested = false := rfl
@[simp] theorem resetBlock_faultLineState (s : State) : (resetBlock s).faultLineState = false := rfl
@[simp] theorem resetBlock_faultLatched (s : State) : (resetBlock s).faultLatched = false := rfl
@[simp] theorem resetBlock_ackPulseActive (s : State) : (resetBlock s).ackPulseActive = false := rfl
@[simp] theorem resetBlock_ackPulseStart (s : State) : (resetBlock s).ackPulseStart = 0#8 := rfl
@[simp] theorem resetBlock_powerEnabled (s : State) : (resetBlock s).powerEnabled = false := rfl
@[simp] theorem resetBlock_indicator (s : State) : (resetBlock s).indicator = .off := rfl
@[simp] theorem resetBlock_phase (s : State) : (resetBlock s).phase = 0#3 := rfl
@[simp] theorem resetBlock_intEnable (s : State) : (resetBlock s).intEnable = true := rfl
@[simp] theorem resetBlock_tickIrq (s : State) : (resetBlock s).tickIrq = false := rfl
@[simp] theorem resetBlock_pcIrq (s : State) : (resetBlock s).pcIrq = false := rfl
@[simp] theorem resetBlock_asleep (s : State) : (resetBlock s).asleep = false := rfl
@[simp] theorem resetBlock_btnPin (s : State) : (resetBlock s).btnPin = s.btnPin := rfl
@[simp] theorem resetBlock_fltExt (s : State) : (resetBlock s).fltExt = s.fltExt := rfl
@[simp] theorem resetBlock_trace (s : State) : (resetBlock s).trace = s.trace := rfl

/-! ### `stampActivity` -/

@[simp] theorem stampActivity_tick (s : State) : (stampActivity s).tick = s.tick := rfl
@[simp] theorem stampActivity_tickPending (s : State) : (stampActivity s).tickPending = s.tickPending := rfl
@[simp] theorem stampActivity_rawButtonState (s : State) : (stampActivity s).rawButtonState = s.rawButtonState := rfl
@[simp] theorem stampActivity_debouncedButtonState (s : State) : (stampActivity s).debouncedButtonState = s.debouncedButtonState := rfl
@[simp] theorem stampActivity_debounceGate (s : State) : (stampActivity s).debounceGate = s.debounceGate := rfl
@[simp] theorem stampActivity_lastActivity (s : State) : (stampActivity s).lastActivity = s.tick := rfl
@[simp] theorem stampActivity_pressEvent (s : State) : (stampActivity s).pressEvent = s.pressEvent := rfl
@[simp] theorem stampActivity_powerRequested (s : State) : (stampActivity s).powerRequested = s.powerRequested := rfl
@[simp] theorem stampActivity_faultLineState (s : State) : (stampActivity s).faultLineState = s.faultLineState := rfl
@[simp] theorem stampActivity_faultLatched (s : State) : (stampActivity s).faultLatched = s.faultLatched := rfl
@[simp] theorem stampActivity_ackPulseActive (s : State) : (stampActivity s).ackPulseActive = s.ackPulseActive := rfl
@[simp] theorem stampActivity_ackPulseStart (s : State) : (stampActivity s).ackPulseStart = s.ackPulseStart := rfl
@[simp] theorem stampActivity_powerEnabled (s : State) : (stampActivity s).powerEnabled = s.powerEnabled := rfl
@[simp] theorem stampActivity_indicator (s : State) : (stampActivity s).indicator = s.indicator := rfl
@[simp] theorem stampActivity_phase (s : State) : (stampActivity s).phase = s.phase := rfl
@[simp] theorem stampActivity_intEnable (s : State) : (stampActivity s).intEnable = s.intEnable := rfl
@[simp] theorem stampActivity_tickIrq (s : State) : (stampActivity s).tickIrq = s.tickIrq := rfl
@[simp] theorem stampActivity_pcIrq (s : State) : (stampActivity s).pcIrq = s.pcIrq := rfl
@[simp] theorem stampActivity_asleep (s : State) : (stampActivity s).asleep = s.asleep := rfl
@[simp] theorem stampActivity_btnPin (s : State) : (stampActivity s).btnPin = s.btnPin := rfl
@[simp] theorem stampActivity_fltExt (s : State) : (stampActivity s).fltExt = s.fltExt := rfl
@[simp] theorem stampActivity_trace (s : State) : (stampActivity s).trace = s.trace := rfl

end Sys2Proof.Laws
end

