-- ==== Sys2Proof/Laws/Ops.lean ====
section
/-! SUPPORT. What each shared operation can do, said once: the enabledness check, raising and holding an interrupt, the
delivery of a held one, and the branches of the filter and the latch. -/

namespace Sys2Proof.Laws

open Sys2Proof.Machine

/-- All a micro-operation can do when it answers a next state (R46). -/
theorem microOp_next_iff {code : PhaseCode} {f : State → State} {s t : State} :
    microOp code f s = .next t ↔ s.asleep = false ∧ s.phase = code ∧ t = f s := by
  unfold microOp
  cases s.asleep
  · by_cases h : s.phase = code <;> simp [h, eq_comm]
  · simp

/-- A micro-operation runs where it is enabled (R46). -/
theorem microOp_enabled {code : PhaseCode} {f : State → State} {s : State}
    (awake : s.asleep = false) (inPhase : s.phase = code) : microOp code f s = .next (f s) :=
  microOp_next_iff.mpr ⟨awake, inPhase, rfl⟩

/-- While asleep every micro-operation is refused (R90). -/
theorem microOp_asleep {code : PhaseCode} {f : State → State} {s : State} (asleep : s.asleep = true) :
    microOp code f s = .refused (.notWhileAsleep code) := by simp [microOp, asleep]

/-- Out of its phase a micro-operation is refused (R90). -/
theorem microOp_outOfPhase {code : PhaseCode} {f : State → State} {s : State}
    (awake : s.asleep = false) (other : s.phase ≠ code) :
    microOp code f s = .refused (.outOfPhase code s.phase) := by simp [microOp, awake, other]

/-- A raise with interrupts enabled is a delivery (R144). -/
theorem raiseIrq_enabled {src : IrqSource} {s : State} (h : s.intEnable = true) :
    raiseIrq src s = deliver src s := by simp [raiseIrq, h]

/-- A raise with interrupts disabled is held (R145). -/
theorem raiseIrq_masked {src : IrqSource} {s : State} (h : s.intEnable = false) :
    raiseIrq src s = hold src s := by simp [raiseIrq, h]

/-- All a raise of the tick interrupt can do (R101). -/
theorem raiseIrq_tick_cases (s : State) :
    (s.intEnable = true ∧ raiseIrq .tick s = deliver .tick s) ∨
    (s.intEnable = false ∧ s.tickIrq = false ∧ raiseIrq .tick s = { s with tickIrq := true }) ∨
    (s.intEnable = false ∧ s.tickIrq = true ∧ raiseIrq .tick s = resetBlock s) := by
  cases he : s.intEnable <;> cases ht : s.tickIrq <;> simp [raiseIrq, hold, he, ht]

/-- All a raise of the pin-change interrupt can do (R122). -/
theorem raiseIrq_pc_cases (s : State) :
    (s.intEnable = true ∧ raiseIrq .pc s = deliver .pc s) ∨
    (s.intEnable = false ∧ raiseIrq .pc s = { s with pcIrq := true }) := by
  cases he : s.intEnable <;> simp [raiseIrq, hold, he]

/-- All the delivery of held interrupts at the end of `SLP` can do (R142, R147), for a state with any latches. -/
theorem deliverHeld_both (s : State) :
    deliverHeld .pc (deliverHeld .tick s) =
      { s with tick := (if s.tickIrq then nextTick s.tick else s.tick), tickPending := s.tickPending || s.tickIrq,
               tickIrq := false, pcIrq := false, asleep := s.asleep && !s.tickIrq && !s.pcIrq } := by
  cases s with
  | mk _ _ _ _ _ _ _ _ _ _ _ _ _ _ _ _ tickIrq pcIrq asleep _ _ _ =>
    cases tickIrq <;> cases pcIrq <;> simp [deliverHeld, deliver, State.pendingIrq]

/-- The line is high exactly when neither driver conducts (R63). -/
theorem fltN_eq_true {s : State} : s.fltN = true ↔ s.fltExt = true ∧ s.ackPulseActive = false := by
  simp [State.fltN, fltLevel]

/-- The line is active exactly when one driver conducts (R63, R88). -/
theorem faultActive_eq_true {s : State} : s.faultActive = true ↔ s.fltExt = false ∨ s.ackPulseActive = true := by
  simp only [State.faultActive, pinRead, State.fltN, fltLevel]
  cases s.fltExt <;> cases s.ackPulseActive <;> simp

/-- Pressed is a low button line (R88). -/
theorem pressed_eq_true {s : State} : s.pressed = true ↔ s.btnPin = false := by simp [State.pressed, pinRead]

/-- The gate test is on the age modulo 256 (R103). -/
theorem gateExpired_eq_true {s : State} : s.gateExpired = true ↔ 3 ≤ (s.tick - s.lastActivity).toNat := by
  simp [State.gateExpired, Config.gateTicks, ageOf, BitVec.ule]

/-- The pulse test is on the age modulo 256 (R103). -/
theorem ackExpired_eq_true {s : State} : s.ackExpired = true ↔ 2 ≤ (s.tick - s.ackPulseStart).toNat := by
  simp [State.ackExpired, Config.ackTicks, ageOf, BitVec.ule]

end Sys2Proof.Laws
end

