-- ==== Sys2Proof/Laws/Effects.lean ====
section
/-! SUPPORT. The effect of each micro-operation in closed form, field by field and without case distinctions between records:
later proofs rewrite with these and never unfold an effect. -/

namespace Sys2Proof.Laws

open Sys2Proof.Machine

variable (s : State)

theorem tckEffect_eq : tckEffect s = { s with tickPending := false, phase := s.phase + 1#3 } := rfl

/-- `BTN` (R112): a rising edge closes the gate, a held button keeps it, a released sample may reopen it. -/
theorem btnEffect_eq : btnEffect s = { s with
    rawButtonState := s.pressed, debouncedButtonState := s.pressed,
    debounceGate := (if s.pressed then s.debounceGate && s.debouncedButtonState else s.debounceGate || s.gateExpired),
    lastActivity := (if s.pressed then s.tick else s.lastActivity),
    pressEvent := s.pressEvent || (s.risingEdge && s.debounceGate),
    phase := s.phase + 1#3 } := by
  have reopen : ∀ b, reopenGate { s with rawButtonState := b } =
      { s with rawButtonState := b, debounceGate := s.debounceGate || s.gateExpired } := by
    intro b
    change (if s.gateExpired = true then _ else _) = _
    cases s.gateExpired <;> simp
  simp only [btnEffect, filterSample, reopen]
  cases pressed : s.btnPin <;> cases prev : s.debouncedButtonState <;> cases s.debounceGate <;>
    simp [qualifyPress, advance, State.risingEdge, State.pressed, pinRead, pressed, prev]

/-- `ACT` (R121). -/
theorem actEffect_eq : actEffect s = { s with
    pressEvent := false, faultLatched := s.faultLatched && !s.pressEvent,
    powerRequested := s.powerRequested ^^ (s.pressEvent && !s.faultLatched), phase := s.phase + 1#3 } := by
  cases press : s.pressEvent <;> cases latched : s.faultLatched <;>
    simp [actEffect, applyPress, advance, press, latched]

/-- `FLT` (R123). -/
theorem fltEffect_eq : fltEffect s = { s with
    faultLineState := s.faultActive, faultLatched := s.faultLatched || s.faultActive,
    powerRequested := s.powerRequested && !(s.faultActive && !s.faultLatched),
    ackPulseActive := s.ackPulseActive || (s.faultActive && !s.faultLatched),
    ackPulseStart := (if s.faultActive && !s.faultLatched then s.tick else s.ackPulseStart),
    phase := s.phase + 1#3 } := by
  cases active : s.faultActive <;> cases latched : s.faultLatched <;>
    simp [fltEffect, latchFault, setDrive, advance, active, latched]

/-- `ACK` (R124, log 6). -/
theorem ackEffect_eq : ackEffect s = { s with
    ackPulseActive := s.ackPulseActive && !s.ackExpired,
    pcIrq := s.pcIrq && !(s.ackPulseActive && s.ackExpired && s.fltExt),
    asleep := s.asleep && !(s.ackPulseActive && s.ackExpired && s.fltExt), phase := s.phase + 1#3 } := by
  cases drive : s.ackPulseActive <;> cases age : s.ackExpired <;> cases ext : s.fltExt <;>
    simp [ackEffect, endDrive, setDrive, deliver, advance, State.fltN, fltLevel, drive, age, ext]

/-- `OUT` (R136). -/
theorem outEffect_eq : outEffect s = { s with
    powerEnabled := s.powerRequested, indicator := derivedIndicator s.powerRequested s.faultLatched,
    phase := s.phase + 1#3 } := rfl

theorem cliEffect_eq : cliEffect s = { s with intEnable := false, phase := s.phase + 1#3 } := rfl

/-- `SLP` (R142). -/
theorem slpEffect_eq : slpEffect s = { s with
    tick := (if s.tickIrq then nextTick s.tick else s.tick), tickPending := s.tickPending || s.tickIrq,
    phase := s.phase + 1#3, intEnable := true, tickIrq := false, pcIrq := false,
    asleep := (s.asleep || !s.tickPending) && !s.tickIrq && !s.pcIrq } := by
  cases pending : s.tickPending <;>
    simp [slpEffect, deliverHeld_both, maybeSleep, State.sleepEnabled, advance, pending]

/-- All a `FLTPIN` can do (R122). -/
theorem fltpin_cases (v : Level) (s : State) :
    ((v = s.fltExt ∨ s.ackPulseActive = true) ∧ execFltpin v s = .next { s with fltExt := v }) ∨
    (v ≠ s.fltExt ∧ s.ackPulseActive = false ∧ s.intEnable = true ∧
      execFltpin v s = .next { s with fltExt := v, pcIrq := false, asleep := false }) ∨
    (v ≠ s.fltExt ∧ s.ackPulseActive = false ∧ s.intEnable = false ∧
      execFltpin v s = .next { s with fltExt := v, pcIrq := true }) := by
  cases drive : s.ackPulseActive <;> cases ext : s.fltExt <;> cases v <;> cases enabled : s.intEnable <;>
    simp [execFltpin, raiseIrq, hold, deliver, State.fltN, fltLevel, drive, ext, enabled]

end Sys2Proof.Laws
end

