-- ==== Sys2Proof/Laws/Exec.lean ====
section
/-! SUPPORT. When each operation answers a next state and which one, over the shared operations; what a step does; how runs
compose. Later proofs cite these instead of unfolding `exec`, `step` or `runOps`. -/

namespace Sys2Proof.Laws

open Sys2Proof.Machine

variable {s t : State}

theorem exec_tck_next : exec .tck s = .next t ↔ s.asleep = false ∧ s.phase = 0#3 ∧ t = tckEffect s := by
  simp only [exec, execTck, microOp_next_iff]

theorem exec_btn_next : exec .btn s = .next t ↔ s.asleep = false ∧ s.phase = 1#3 ∧ t = btnEffect s := by
  simp only [exec, execBtn, microOp_next_iff]

theorem exec_act_next : exec .act s = .next t ↔ s.asleep = false ∧ s.phase = 2#3 ∧ t = actEffect s := by
  simp only [exec, execAct, microOp_next_iff]

theorem exec_flt_next : exec .flt s = .next t ↔ s.asleep = false ∧ s.phase = 3#3 ∧ t = fltEffect s := by
  simp only [exec, execFlt, microOp_next_iff]

theorem exec_ack_next : exec .ack s = .next t ↔ s.asleep = false ∧ s.phase = 4#3 ∧ t = ackEffect s := by
  simp only [exec, execAck, microOp_next_iff]

theorem exec_out_next : exec .out s = .next t ↔ s.asleep = false ∧ s.phase = 5#3 ∧ t = outEffect s := by
  simp only [exec, execOut, microOp_next_iff]

theorem exec_cli_next : exec .cli s = .next t ↔ s.asleep = false ∧ s.phase = 6#3 ∧ t = cliEffect s := by
  simp only [exec, execCli, microOp_next_iff]

theorem exec_slp_next : exec .slp s = .next t ↔ s.asleep = false ∧ s.phase = 7#3 ∧ t = slpEffect s := by
  simp only [exec, execSlp, microOp_next_iff]

/-! ### The operations that are not the sequencer's -/

theorem exec_tick : exec .tick s = .next (raiseIrq .tick s) := rfl

theorem exec_rst : exec .rst s = .next (resetBlock s) := rfl

theorem exec_btnpin {v : Level} : exec (.btnpin v) s = .next { s with btnPin := v } := rfl

theorem exec_fltpin {v : Level} : exec (.fltpin v) s =
    .next (if ({ s with fltExt := v } : State).fltN = s.fltN then { s with fltExt := v }
      else raiseIrq .pc { s with fltExt := v }) := rfl

/-- Everything an operation can do when it is taken, one constructor for each way it can go, with the next state field by
field: cases on it is the case analysis over `exec`. -/
inductive Taken (s : State) : Instr → State → Prop where
  | tck (awake : s.asleep = false) (here : s.phase = 0#3) :
      Taken s .tck { s with tickPending := false, phase := 1#3 }
  | btn (awake : s.asleep = false) (here : s.phase = 1#3) : Taken s .btn { s with
      rawButtonState := !s.btnPin, debouncedButtonState := !s.btnPin,
      debounceGate := (if s.btnPin then s.debounceGate || s.gateExpired else s.debounceGate && s.debouncedButtonState),
      lastActivity := (if s.btnPin then s.lastActivity else s.tick),
      pressEvent := s.pressEvent || (!s.btnPin && !s.debouncedButtonState && s.debounceGate), phase := 2#3 }
  | act (awake : s.asleep = false) (here : s.phase = 2#3) : Taken s .act { s with
      pressEvent := false, faultLatched := s.faultLatched && !s.pressEvent,
      powerRequested := s.powerRequested ^^ (s.pressEvent && !s.faultLatched), phase := 3#3 }
  | flt (awake : s.asleep = false) (here : s.phase = 3#3) : Taken s .flt { s with
      faultLineState := s.faultActive, faultLatched := s.faultLatched || s.faultActive,
      powerRequested := s.powerRequested && !(s.faultActive && !s.faultLatched),
      ackPulseActive := s.ackPulseActive || (s.faultActive && !s.faultLatched),
      ackPulseStart := (if s.faultActive && !s.faultLatched then s.tick else s.ackPulseStart), phase := 4#3 }
  | ack (awake : s.asleep = false) (here : s.phase = 4#3) : Taken s .ack { s with
      ackPulseActive := s.ackPulseActive && !s.ackExpired,
      pcIrq := s.pcIrq && !(s.ackPulseActive && s.ackExpired && s.fltExt), phase := 5#3 }
  | out (awake : s.asleep = false) (here : s.phase = 5#3) : Taken s .out { s with
      powerEnabled := s.powerRequested, indicator := derivedIndicator s.powerRequested s.faultLatched, phase := 6#3 }
  | cli (awake : s.asleep = false) (here : s.phase = 6#3) : Taken s .cli { s with intEnable := false, phase := 7#3 }
  | slp (awake : s.asleep = false) (here : s.phase = 7#3) : Taken s .slp { s with
      tick := (if s.tickIrq then s.tick + 1#8 else s.tick), tickPending := s.tickPending || s.tickIrq, phase := 0#3,
      intEnable := true, tickIrq := false, pcIrq := false, asleep := !s.tickPending && !s.tickIrq && !s.pcIrq }
  | tickDelivered (enabled : s.intEnable = true) : Taken s .tick { s with
      tick := s.tick + 1#8, tickPending := true, tickIrq := false, asleep := false }
  | tickHeld (masked : s.intEnable = false) (armed : s.tickIrq = false) : Taken s .tick { s with tickIrq := true }
  | tickFatal (masked : s.intEnable = false) (late : s.tickIrq = true) : Taken s .tick (resetBlock s)
  | rst : Taken s .rst (resetBlock s)
  | btnpin (v : Level) : Taken s (.btnpin v) { s with btnPin := v }
  | fltpinSilent (v : Level) (same : v = s.fltExt ∨ s.ackPulseActive = true) : Taken s (.fltpin v) { s with fltExt := v }
  | fltpinDelivered (v : Level) (moved : v ≠ s.fltExt) (idle : s.ackPulseActive = false) (enabled : s.intEnable = true) :
      Taken s (.fltpin v) { s with fltExt := v, pcIrq := false, asleep := false }
  | fltpinHeld (v : Level) (moved : v ≠ s.fltExt) (idle : s.ackPulseActive = false) (masked : s.intEnable = false) :
      Taken s (.fltpin v) { s with fltExt := v, pcIrq := true }

/-- What `exec` can do, said once. -/
theorem taken_of_exec {i : Instr} (h : exec i s = .next t) : Taken s i t := by
  cases i with
  | tck =>
    obtain ⟨awake, here, rfl⟩ := exec_tck_next.mp h
    simpa [tckEffect_eq, here] using Taken.tck awake here
  | btn =>
    obtain ⟨awake, here, rfl⟩ := exec_btn_next.mp h
    have := Taken.btn awake here
    cases pressed : s.btnPin <;>
      simpa [btnEffect_eq, State.risingEdge, State.pressed, pinRead, here, pressed] using this
  | act =>
    obtain ⟨awake, here, rfl⟩ := exec_act_next.mp h
    simpa [actEffect_eq, here] using Taken.act awake here
  | flt =>
    obtain ⟨awake, here, rfl⟩ := exec_flt_next.mp h
    simpa [fltEffect_eq, here] using Taken.flt awake here
  | ack =>
    obtain ⟨awake, here, rfl⟩ := exec_ack_next.mp h
    simpa [ackEffect_eq, here, awake] using Taken.ack awake here
  | out =>
    obtain ⟨awake, here, rfl⟩ := exec_out_next.mp h
    simpa [outEffect_eq, here] using Taken.out awake here
  | cli =>
    obtain ⟨awake, here, rfl⟩ := exec_cli_next.mp h
    simpa [cliEffect_eq, here] using Taken.cli awake here
  | slp =>
    obtain ⟨awake, here, rfl⟩ := exec_slp_next.mp h
    simpa [slpEffect_eq, here, awake, nextTick] using Taken.slp awake here
  | tick =>
    injection h with h
    subst h
    rcases raiseIrq_tick_cases s with ⟨he, e⟩ | ⟨he, ht, e⟩ | ⟨he, ht, e⟩ <;> rw [e]
    · exact .tickDelivered he
    · exact .tickHeld he ht
    · exact .tickFatal he ht
  | rst => injection h with h; subst h; exact .rst
  | btnpin v => injection h with h; subst h; exact .btnpin v
  | fltpin v =>
    rcases fltpin_cases v s with ⟨c, e⟩ | ⟨c, d, he, e⟩ | ⟨c, d, he, e⟩ <;>
      (injection e.symm.trans h with h; subst h)
    · exact .fltpinSilent v c
    · exact .fltpinDelivered v c d he
    · exact .fltpinHeld v c d he

/-- An operation is taken one way at most. -/
theorem taken_unique {i : Instr} {u : State} (h : Taken s i t) (k : exec i s = .next u) : u = t := by
  have k := taken_of_exec k
  cases h <;> cases k <;> simp_all

/-- Whatever can be taken is what `exec` answers. -/
theorem exec_of_taken {i : Instr} (h : Taken s i t) : exec i s = .next t := by
  have answers : ∃ u, exec i s = .next u := by
    cases h with
    | tck awake here => exact ⟨_, exec_tck_next.mpr ⟨awake, here, rfl⟩⟩
    | btn awake here => exact ⟨_, exec_btn_next.mpr ⟨awake, here, rfl⟩⟩
    | act awake here => exact ⟨_, exec_act_next.mpr ⟨awake, here, rfl⟩⟩
    | flt awake here => exact ⟨_, exec_flt_next.mpr ⟨awake, here, rfl⟩⟩
    | ack awake here => exact ⟨_, exec_ack_next.mpr ⟨awake, here, rfl⟩⟩
    | out awake here => exact ⟨_, exec_out_next.mpr ⟨awake, here, rfl⟩⟩
    | cli awake here => exact ⟨_, exec_cli_next.mpr ⟨awake, here, rfl⟩⟩
    | slp awake here => exact ⟨_, exec_slp_next.mpr ⟨awake, here, rfl⟩⟩
    | tickDelivered | tickHeld | tickFatal | rst | btnpin | fltpinSilent | fltpinDelivered | fltpinHeld => exact ⟨_, rfl⟩
  obtain ⟨u, hu⟩ := answers
  rw [hu, taken_unique h hu]

/-- No step and no operation faults: there is no fault (R160). -/
theorem no_fault {o : Host.Outcome State Fault Refusal} {r : Fault} : o ≠ .fault r := nomatch r

/-- A step with a word waiting runs the operation the word names (log 1). -/
theorem step_word {w : OpWord} {rest : List OpWord} {i : Instr} (waits : s.trace = w :: rest) (names : decode w = .ok i) :
    step s = exec i { s with trace := rest } := by simp [step, nextTurn, waits, names]

/-- A step with nothing waiting is the sequencer's, while awake (R46). -/
theorem step_sequencer (empty : s.trace = []) (awake : s.asleep = false) : step s = exec (microInstr s.phase) s := by
  simp [step, nextTurn, empty, awake]

/-- A sleeping block for which nothing waits holds its state (log 2). -/
theorem step_idle (empty : s.trace = []) (asleep : s.asleep = true) : step s = .next s := by
  simp [step, nextTurn, empty, asleep]

/-- All a step can do when it answers a next state: run an operation, only `trace` changed before it, or hold. -/
theorem step_next_cases (h : step s = .next t) :
    (∃ i rest, exec i { s with trace := rest } = .next t) ∨ (s.asleep = true ∧ t = s) := by
  cases waits : s.trace with
  | nil =>
    by_cases asleep : s.asleep = true
    · rw [step_idle waits asleep] at h
      injection h with h
      exact .inr ⟨asleep, h.symm⟩
    · rw [step_sequencer waits (by simpa using asleep)] at h
      exact .inl ⟨microInstr s.phase, s.trace, h⟩
  | cons w rest =>
    cases names : decode w with
    | ok i => exact .inl ⟨i, rest, by rwa [step_word waits names] at h⟩
    | error e => simp [step, nextTurn, waits, names] at h

/-- The first operation of a run (R14). -/
theorem runOps_cons_next {i : Instr} {is : List Instr} {u : State} :
    runOps (i :: is) s = .next u ↔ ∃ t, exec i s = .next t ∧ runOps is t = .next u := by
  simp only [runOps]
  cases h : exec i s with
  | next t => simp
  | fault r => exact absurd h no_fault
  | refused r => simp

/-- Runs compose. -/
theorem runOps_append_next {is js : List Instr} {u : State} :
    runOps (is ++ js) s = .next u ↔ ∃ t, runOps is s = .next t ∧ runOps js t = .next u := by
  induction is generalizing s with
  | nil => simp [runOps]
  | cons i is ih => simp only [List.cons_append, runOps_cons_next, ih]; exact ⟨fun ⟨v, hv, w, hw, hu⟩ => ⟨w, ⟨v, hv, hw⟩, hu⟩, fun ⟨w, ⟨v, hv, hw⟩, hu⟩ => ⟨v, hv, w, hw, hu⟩⟩

end Sys2Proof.Laws
end

