-- ==== Sys2Proof/Laws/PerInstr.lean ====
section
/-! SUPPORT. Statements made instruction by instruction about the instruction as syntax. -/

namespace Sys2Proof.Laws.RowOfEncoding

/-- Exactly one row of the opcode map covers the word of `i`, and it is the row of `i`'s mnemonic (30_encoding.md R81, R89). -/
def Statement (i : Instr) : Prop :=
  (opRows.filter (fun r => r.covers (encode i))).map (fun r => r.mnemonic) = [i.mnemonic]

theorem tck : Statement .tck := by unfold Statement; decide
theorem btn : Statement .btn := by unfold Statement; decide
theorem act : Statement .act := by unfold Statement; decide
theorem flt : Statement .flt := by unfold Statement; decide
theorem ack : Statement .ack := by unfold Statement; decide
theorem out : Statement .out := by unfold Statement; decide
theorem cli : Statement .cli := by unfold Statement; decide
theorem slp : Statement .slp := by unfold Statement; decide
theorem tick : Statement .tick := by unfold Statement; decide
theorem rst : Statement .rst := by unfold Statement; decide
theorem btnpin (v : Level) : Statement (.btnpin v) := by revert v; unfold Statement; decide
theorem fltpin (v : Level) : Statement (.fltpin v) := by revert v; unfold Statement; decide

end Sys2Proof.Laws.RowOfEncoding
end

