-- ==== Sys2Proof/Laws/Safety.lean ====
section
/-! SUPPORT. Runs stay among the reachable states. -/

namespace Sys2Proof.Laws

open Sys2Proof.Machine

/-- A run from a reachable state ends in one (R14). -/
theorem reachable_of_runOps {is : List Instr} {s t : State} (start : Reachable s) (run : runOps is s = .next t) :
    Reachable t := by
  induction is generalizing s with
  | nil => injection run with run; exact run ▸ start
  | cons i is ih =>
    obtain ⟨u, first, rest⟩ := runOps_cons_next.mp run
    exact ih (start.op first) rest

end Sys2Proof.Laws
end

