-- ==== Sys2Proof/Tests/Slice0.lean ====
section
/-! SUPPORT. Tests on fixed values: ill-formed terms refused, every constructor's word written out from 30_encoding.md R82 to
R84, at most two one-step vectors per operation from 95_test_vectors.md, and for every statement with hypotheses a witness
that meets them. -/

namespace Sys2Proof.Tests

open Sys2Proof.Machine

/-! ### Ill-formed terms -/

/-- Reserved words (R90), one from each end of each range, and the defined neighbours. -/
theorem test_reserved_words_undefined :
    [0x08#8, 0x0F#8, 0x11#8, 0x1E#8, 0x24#8, 0x2F#8, 0x30#8, 0xFF#8].all (fun w => !definedWord w) = true ∧
    [0x07#8, 0x10#8, 0x1F#8, 0x20#8, 0x23#8].all definedWord = true := by decide

theorem test_trace_with_reserved_word_ill_formed :
    wfTrace [0x00#8, 0x08#8] = false ∧ wfTrace [0x00#8, 0x07#8] = true := by decide

/-- The table of R49 is well formed; eighteen numbers, twenty numbers, `Tick = 256` and `Indicator = 0b11` are not (R20, U3). -/
theorem test_tuple_checks :
    wfTuple [0, 0, 0, 0, 1, 0, 0, 0, 0, 0, 0, 0, 0, 0, 0, 1, 0, 0, 0] = true ∧
    wfTuple [0, 0, 0, 0, 1, 0, 0, 0, 0, 0, 0, 0, 0, 0, 0, 1, 0, 0] = false ∧
    wfTuple [0, 0, 0, 0, 1, 0, 0, 0, 0, 0, 0, 0, 0, 0, 0, 1, 0, 0, 0, 0] = false ∧
    wfTuple [256, 0, 0, 0, 1, 0, 0, 0, 0, 0, 0, 0, 0, 0, 0, 1, 0, 0, 0] = false ∧
    wfTuple [0, 0, 0, 0, 1, 0, 0, 0, 0, 0, 0, 0, 0, 3, 0, 1, 0, 0, 0] = false ∧
    State.ofTuple? [0, 0, 0, 0, 1, 0, 0, 0, 0, 0, 0, 0, 0, 3, 0, 1, 0, 0, 0] true true = none := by decide

/-- R92: what is not in the trace syntax is refused. -/
theorem test_bad_text_refused :
    parseTrace? "BTNPIN 2".toList = none ∧ parseTrace? "BTNPIN".toList = none ∧ parseTrace? "tck".toList = none ∧
    parseTrace? "TCK 0".toList = none ∧ parseTrace? "TICKITER x".toList = none := by decide

/-- A trace of 95_test_vectors.md with a comment, a separator and a pseudo-operation (R92, R93). -/
theorem test_text_read :
    parseTrace? "PRESS ; TICK -- the press\nBTNPIN 1".toList = some [.btnpin false, .tick, .btnpin true] := by decide

/-! ### Decoding: words written bit by bit -/

theorem test_decode_format_c :
    decode 0b00000000#8 = .ok .tck ∧ decode 0b00000001#8 = .ok .btn ∧ decode 0b00000010#8 = .ok .act ∧
    decode 0b00000011#8 = .ok .flt ∧ decode 0b00000100#8 = .ok .ack ∧ decode 0b00000101#8 = .ok .out ∧
    decode 0b00000110#8 = .ok .cli ∧ decode 0b00000111#8 = .ok .slp := ⟨rfl, rfl, rfl, rfl, rfl, rfl, rfl, rfl⟩

theorem test_decode_format_e : decode 0b00010000#8 = .ok .tick ∧ decode 0b00011111#8 = .ok .rst := ⟨rfl, rfl⟩

theorem test_decode_format_p :
    decode 0b00100000#8 = .ok (.btnpin false) ∧ decode 0b00100001#8 = .ok (.btnpin true) ∧
    decode 0b00100010#8 = .ok (.fltpin false) ∧ decode 0b00100011#8 = .ok (.fltpin true) := ⟨rfl, rfl, rfl, rfl⟩

/-- The host's reading of a table word; nothing is read from a word of more than one byte or from bits that do not fit. -/
theorem test_decode_table_word :
    decodeTableWord 8 0x22 = some (.fltpin false) ∧ decodeTableWord 8 0x08 = none ∧ decodeTableWord 16 0x22 = none ∧
    decodeTableWord 8 0x122 = none := by decide

/-! ### One-step vectors of 95_test_vectors.md -/

/-- The reset state with its `Phase` moved: the start of the vector tables. -/
def startAt (p : PhaseCode) : State := { State.reset with phase := p }

/-- The reset state asleep. -/
def sleeping : State := { State.reset with asleep := true }

/-- The reset state in the critical region. -/
def masked : State := { startAt 7#3 with intEnable := false }

/-- VT3. -/
theorem test_tick_wraps :
    exec .tick { State.reset with tick := 255#8 } = .next { State.reset with tick := 0#8, tickPending := true } := rfl

/-- VT6. -/
theorem test_tick_missed_rearm_resets :
    exec .tick { masked with
      tickIrq := true, tick := 9#8, powerRequested := true, powerEnabled := true, indicator := .green } =
    .next State.reset := rfl

/-- VK1. -/
theorem test_tck_consumes :
    exec .tck { startAt 0#3 with tick := 5#8, tickPending := true } = .next { startAt 1#3 with tick := 5#8 } := rfl

/-- VP2. -/
theorem test_btnpin_does_not_wake : exec (.btnpin false) sleeping = .next { sleeping with btnPin := false } := rfl

/-- VB1. -/
theorem test_btn_qualified_press :
    exec .btn { startAt 1#3 with tick := 10#8, lastActivity := 2#8, btnPin := false } =
    .next { startAt 2#3 with
      tick := 10#8, rawButtonState := true, debouncedButtonState := true, debounceGate := false, lastActivity := 10#8,
      pressEvent := true, btnPin := false } := rfl

/-- VB8: age 3 across the wrap. -/
theorem test_btn_reopens_across_wrap :
    exec .btn { startAt 1#3 with tick := 1#8, lastActivity := 254#8, debounceGate := false } =
    .next { startAt 2#3 with tick := 1#8, lastActivity := 254#8 } := rfl

/-- VA3. -/
theorem test_act_clears_latch_only :
    exec .act { startAt 2#3 with pressEvent := true, faultLatched := true, indicator := .red } =
    .next { startAt 3#3 with indicator := .red } := rfl

/-- VA2. -/
theorem test_act_toggles_off :
    exec .act { startAt 2#3 with
      pressEvent := true, powerRequested := true, powerEnabled := true, indicator := .green } =
    .next { startAt 3#3 with powerEnabled := true, indicator := .green } := rfl

/-- VF5: an external release under the block's own drive. -/
theorem test_fltpin_silent_under_drive :
    exec (.fltpin true) { sleeping with faultLatched := true, ackPulseActive := true, fltExt := false } =
    .next { sleeping with faultLatched := true, ackPulseActive := true, fltExt := true } := rfl

/-- VF6: a rising edge wakes too. -/
theorem test_fltpin_rising_edge_wakes :
    exec (.fltpin true) { sleeping with faultLatched := true, fltExt := false } =
    .next { State.reset with faultLatched := true } := rfl

/-- VL1. -/
theorem test_flt_latches_while_on :
    exec .flt { startAt 3#3 with
      tick := 7#8, powerRequested := true, powerEnabled := true, indicator := .green, fltExt := false } =
    .next { startAt 4#3 with
      tick := 7#8, faultLineState := true, faultLatched := true, ackPulseActive := true, ackPulseStart := 7#8,
      powerEnabled := true, indicator := .green, fltExt := false } := rfl

/-- VL6: the orphan pulse latches again on the block's own drive. -/
theorem test_flt_orphan_relatches :
    exec .flt { startAt 3#3 with tick := 7#8, faultLineState := true, ackPulseActive := true, ackPulseStart := 6#8 } =
    .next { startAt 4#3 with
      tick := 7#8, faultLineState := true, faultLatched := true, ackPulseActive := true, ackPulseStart := 7#8 } := rfl

/-- VC6: age 2 across the wrap. -/
theorem test_ack_ends_across_wrap :
    exec .ack { startAt 4#3 with
      tick := 1#8, faultLatched := true, faultLineState := true, ackPulseActive := true, ackPulseStart := 255#8 } =
    .next { startAt 5#3 with tick := 1#8, faultLatched := true, faultLineState := true, ackPulseStart := 255#8 } := rfl

/-- VC2: age 1. -/
theorem test_ack_keeps_driving :
    exec .ack { startAt 4#3 with
      tick := 8#8, faultLatched := true, faultLineState := true, ackPulseActive := true, ackPulseStart := 7#8,
      fltExt := false } =
    .next { startAt 5#3 with
      tick := 8#8, faultLatched := true, faultLineState := true, ackPulseActive := true, ackPulseStart := 7#8,
      fltExt := false } := rfl

/-- VO2. -/
theorem test_out_red :
    exec .out { startAt 5#3 with faultLatched := true, powerEnabled := true, indicator := .green } =
    .next { startAt 6#3 with faultLatched := true, indicator := .red } := rfl

/-- VO4: the unreachable input 1, 1. -/
theorem test_out_request_wins :
    exec .out { startAt 5#3 with powerRequested := true, faultLatched := true } =
    .next { startAt 6#3 with
      powerRequested := true, faultLatched := true, powerEnabled := true, indicator := .green } := rfl

/-- VI1. -/
theorem test_cli : exec .cli (startAt 6#3) = .next masked := rfl

/-- VS4: both held. -/
theorem test_slp_delivers_both :
    exec .slp { masked with tick := 5#8, tickIrq := true, pcIrq := true } =
    .next { State.reset with tick := 6#8, tickPending := true } := rfl

/-- VS1. -/
theorem test_slp_sleeps : exec .slp { masked with tick := 5#8 } = .next { sleeping with tick := 5#8 } := rfl

/-- VR1. -/
theorem test_rst_mid_iteration :
    (State.ofTuple? [200, 1, 1, 1, 0, 199, 0, 0, 1, 1, 1, 199, 0, 1, 5, 1, 0, 0, 0] false false).map (exec .rst) =
    some (.next { State.reset with btnPin := false, fltExt := false }) := rfl

/-- `State.reset` is the table of R49 under `env(1, 1)`. -/
theorem test_reset_is_table :
    State.ofTuple? [0, 0, 0, 0, 1, 0, 0, 0, 0, 0, 0, 0, 0, 0, 0, 1, 0, 0, 0] true true = some State.reset := by decide

/-- VX1, VX2. -/
theorem test_untakeable_refused :
    exec .flt (startAt 1#3) = .refused (.outOfPhase 3#3 1#3) ∧ exec .tck sleeping = .refused (.notWhileAsleep 0#3) := ⟨rfl, rfl⟩

/-- A placed word runs as the first step after reset. -/
theorem test_placed_word_runs :
    step (State.reset.withFetchWord 8 0x07) = exec .slp (startAt 7#3) ∧
    step (State.reset.withFetchWord 8 0x23) = exec (.fltpin true) State.reset ∧
    step (State.reset.withFetchWord 8 0xFF) = .refused (.reservedWord (.reservedClass 0xFF#8)) := ⟨rfl, rfl, rfl⟩

/-! ### Witnesses: encoding -/

theorem witness_EncodingIsExact :
    decode 0x23#8 = .ok (.fltpin true) ∧ decodeTrace [0x10#8, 0x00#8] = .ok [.tick, .tck] := ⟨rfl, rfl⟩

theorem witness_PseudoOpsComplete :
    pseudoLegal .iter State.reset = true ∧ pseudoLegal .fault sleeping = true ∧
    pseudoLegal (.tickIter 2) sleeping = true ∧ pseudoLegal (.tickIter 0) sleeping = true := by decide

/-! ### Witnesses: the operations, one state per clause, boundary values of the ages -/

theorem witness_ResetSetsEveryField : ∃ s : State, s.intEnable = false ∧ s.tickIrq = true :=
  ⟨{ masked with tickIrq := true }, by decide⟩

theorem witness_TckConsumesTickFlag :
    (∃ s : State, s.asleep = false ∧ s.phase = 0#3) ∧ (∃ s : State, ¬(s.asleep = false ∧ s.phase = 0#3)) :=
  ⟨⟨State.reset, by decide⟩, ⟨startAt 1#3, by decide⟩⟩

theorem witness_BtnFiltersSample :
    (∃ s : State, s.asleep = false ∧ s.phase = 1#3 ∧ s.btnPin = false ∧ s.debouncedButtonState = false ∧
      s.debounceGate = true) ∧
    (∃ s : State, s.asleep = false ∧ s.phase = 1#3 ∧ s.btnPin = false ∧ s.debouncedButtonState = true) ∧
    (∃ s : State, s.asleep = false ∧ s.phase = 1#3 ∧ s.btnPin = false ∧ s.debouncedButtonState = false ∧
      s.debounceGate = false) ∧
    (∃ s : State, s.asleep = false ∧ s.phase = 1#3 ∧ s.btnPin = true ∧
      (s.tick.toNat + 256 - s.lastActivity.toNat) % 256 = 3) ∧
    (∃ s : State, s.asleep = false ∧ s.phase = 1#3 ∧ s.btnPin = true ∧
      (s.tick.toNat + 256 - s.lastActivity.toNat) % 256 = 2) ∧
    (∃ s : State, ¬(s.asleep = false ∧ s.phase = 1#3)) :=
  ⟨⟨{ startAt 1#3 with btnPin := false }, by decide⟩,
    ⟨{ startAt 1#3 with btnPin := false, debouncedButtonState := true }, by decide⟩,
    ⟨{ startAt 1#3 with btnPin := false, debounceGate := false }, by decide⟩,
    ⟨{ startAt 1#3 with tick := 1#8, lastActivity := 254#8 }, by decide⟩,
    ⟨{ startAt 1#3 with tick := 0#8, lastActivity := 254#8 }, by decide⟩, ⟨startAt 2#3, by decide⟩⟩

theorem witness_ActAppliesPress :
    (∃ s : State, s.asleep = false ∧ s.phase = 2#3 ∧ s.pressEvent = false) ∧
    (∃ s : State, s.asleep = false ∧ s.phase = 2#3 ∧ s.pressEvent = true ∧ s.faultLatched = true) ∧
    (∃ s : State, s.asleep = false ∧ s.phase = 2#3 ∧ s.pressEvent = true ∧ s.faultLatched = false) ∧
    (∃ s : State, ¬(s.asleep = false ∧ s.phase = 2#3)) :=
  ⟨⟨startAt 2#3, by decide⟩, ⟨{ startAt 2#3 with pressEvent := true, faultLatched := true }, by decide⟩,
    ⟨{ startAt 2#3 with pressEvent := true }, by decide⟩, ⟨startAt 3#3, by decide⟩⟩

theorem witness_FltLatchesActiveLine :
    (∃ s : State, s.asleep = false ∧ s.phase = 3#3 ∧ s.fltExt = true ∧ s.ackPulseActive = false) ∧
    (∃ s : State, s.asleep = false ∧ s.phase = 3#3 ∧ (s.fltExt = false ∨ s.ackPulseActive = true) ∧
      s.faultLatched = true) ∧
    (∃ s : State, s.asleep = false ∧ s.phase = 3#3 ∧ s.fltExt = false ∧ s.ackPulseActive = false ∧
      s.faultLatched = false) ∧
    (∃ s : State, s.asleep = false ∧ s.phase = 3#3 ∧ s.fltExt = true ∧ s.ackPulseActive = true ∧
      s.faultLatched = false) ∧
    (∃ s : State, ¬(s.asleep = false ∧ s.phase = 3#3)) :=
  ⟨⟨startAt 3#3, by decide⟩, ⟨{ startAt 3#3 with fltExt := false, faultLatched := true }, by decide⟩,
    ⟨{ startAt 3#3 with fltExt := false }, by decide⟩, ⟨{ startAt 3#3 with ackPulseActive := true }, by decide⟩,
    ⟨sleeping, by decide⟩⟩

theorem witness_AckEndsOldDrive :
    (∃ s : State, s.asleep = false ∧ s.phase = 4#3 ∧ s.ackPulseActive = false) ∧
    (∃ s : State, s.asleep = false ∧ s.phase = 4#3 ∧ s.ackPulseActive = true ∧
      (s.tick.toNat + 256 - s.ackPulseStart.toNat) % 256 = 1) ∧
    (∃ s : State, s.asleep = false ∧ s.phase = 4#3 ∧ s.ackPulseActive = true ∧
      (s.tick.toNat + 256 - s.ackPulseStart.toNat) % 256 = 2) ∧
    (∃ s : State, ¬(s.asleep = false ∧ s.phase = 4#3)) :=
  ⟨⟨startAt 4#3, by decide⟩, ⟨{ startAt 4#3 with ackPulseActive := true, tick := 0#8, ackPulseStart := 255#8 }, by decide⟩,
    ⟨{ startAt 4#3 with ackPulseActive := true, tick := 1#8, ackPulseStart := 255#8 }, by decide⟩, ⟨startAt 5#3, by decide⟩⟩

theorem witness_OutDerivesOutputs :
    (∃ s : State, s.asleep = false ∧ s.phase = 5#3 ∧ s.powerRequested = true) ∧
    (∃ s : State, s.asleep = false ∧ s.phase = 5#3 ∧ s.powerRequested = false ∧ s.faultLatched = true) ∧
    (∃ s : State, s.asleep = false ∧ s.phase = 5#3 ∧ s.powerRequested = false ∧ s.faultLatched = false) ∧
    (∃ s : State, ¬(s.asleep = false ∧ s.phase = 5#3)) :=
  ⟨⟨{ startAt 5#3 with powerRequested := true }, by decide⟩, ⟨{ startAt 5#3 with faultLatched := true }, by decide⟩,
    ⟨startAt 5#3, by decide⟩, ⟨startAt 6#3, by decide⟩⟩

theorem witness_CliOpensCriticalRegion :
    (∃ s : State, s.asleep = false ∧ s.phase = 6#3) ∧ (∃ s : State, ¬(s.asleep = false ∧ s.phase = 6#3)) :=
  ⟨⟨startAt 6#3, by decide⟩, ⟨startAt 7#3, by decide⟩⟩

theorem witness_SlpChecksSleepsDelivers :
    (∃ s : State, s.asleep = false ∧ s.phase = 7#3) ∧ (∃ s : State, ¬(s.asleep = false ∧ s.phase = 7#3)) :=
  ⟨⟨masked, by decide⟩, ⟨sleeping, by decide⟩⟩

theorem witness_TickFiresOrResets :
    (∃ s : State, s.intEnable = true ∧ s.tick = 255#8) ∧ (∃ s : State, s.intEnable = false ∧ s.tickIrq = false) ∧
    (∃ s : State, s.intEnable = false ∧ s.tickIrq = true) :=
  ⟨⟨{ State.reset with tick := 255#8 }, by decide⟩, ⟨masked, by decide⟩, ⟨{ masked with tickIrq := true }, by decide⟩⟩

theorem witness_BtnpinSetsOnlyTheLine : ∃ (v : Level) (s : State), v = s.btnPin := ⟨true, State.reset, rfl⟩

theorem witness_FltpinRaisesOnChange :
    (∃ (v : Level) (s : State), v = s.fltExt) ∧ (∃ s : State, s.ackPulseActive = true) ∧
    (∃ (v : Level) (s : State), v ≠ s.fltExt ∧ s.ackPulseActive = false ∧ s.intEnable = true) ∧
    (∃ (v : Level) (s : State), v ≠ s.fltExt ∧ s.ackPulseActive = false ∧ s.intEnable = false) :=
  ⟨⟨true, State.reset, rfl⟩, ⟨{ State.reset with ackPulseActive := true }, rfl⟩, ⟨false, sleeping, by decide⟩,
    ⟨false, masked, by decide⟩⟩

/-! ### Witnesses: which operations run, and the step -/

theorem witness_ExactlyTheEnabledOpsRun :
    (∃ i : Instr, i.agent ≠ .sequencer) ∧ Instr.phaseCode? .slp = some 7#3 ∧ State.reset.asleep = false ∧
    sleeping.asleep = true ∧ (∃ i : Instr, i.agent = .sequencer) :=
  ⟨⟨.tick, by decide⟩, rfl, rfl, rfl, ⟨.tck, rfl⟩⟩

theorem witness_UntakeableOpsRefusedByName :
    Instr.phaseCode? .flt = some 3#3 ∧ sleeping.asleep = true ∧
    (startAt 1#3).asleep = false ∧ (startAt 1#3).phase ≠ 3#3 := by decide

theorem witness_StepRunsDecodedWord :
    (∃ s : State, s.trace = [0x10#8] ∧ decode 0x10#8 = .ok .tick) ∧
    (∃ s : State, s.trace = [0x08#8, 0x00#8] ∧ decode 0x08#8 = .error (.reservedMicroOp 0x08#8)) :=
  ⟨⟨{ State.reset with trace := [0x10#8] }, rfl, rfl⟩, ⟨{ State.reset with trace := [0x08#8, 0x00#8] }, rfl, rfl⟩⟩

theorem witness_StepRunsHardwiredSequence :
    (State.reset.trace = [] ∧ State.reset.asleep = false) ∧ (sleeping.trace = [] ∧ sleeping.asleep = true) := by decide

theorem witness_PlacedWordRunsNext : Instr.agent .tick ≠ .sequencer := by decide

/-! ### Witnesses: invariants -/

/-- The two bits of a latch state, the outputs and the phase are all the invariant looks at here. -/
theorem inv_of_quiet {s : State} (quiet : s.debouncedButtonState = false ∧ s.rawButtonState = false ∧ s.pressEvent = false)
    (irq : s.intEnable = true ∧ s.tickIrq = false ∧ s.pcIrq = false ∧ s.asleep = false ∧ s.phase ≠ 7#3)
    (power : s.powerRequested = false ∧ s.powerEnabled = false ∧ s.indicator = derivedIndicator false s.faultLatched)
    (drive : s.ackPulseActive = true → s.faultLatched = true ∧ s.faultLineState = true) : BlockInv s := by
  obtain ⟨q1, q2, q3⟩ := quiet
  obtain ⟨i1, i2, i3, i4, i5⟩ := irq
  obtain ⟨p1, p2, p3⟩ := power
  constructor <;> simp_all [derivedIndicator]
  split <;> simp

/-- A latched fault with the pulse over, at any phase but 7. -/
def latchedAt (p : PhaseCode) : State := { startAt p with faultLatched := true, indicator := .red }

/-- A latched fault during the pulse. -/
def drivingAt (p : PhaseCode) : State := { latchedAt p with ackPulseActive := true, faultLineState := true }

/-- A qualified press waiting for `ACT`. -/
def pressedAt (s : State) : State := { s with
  pressEvent := true, debounceGate := false, debouncedButtonState := true, rawButtonState := true, btnPin := false }

theorem inv_reset : BlockInv State.reset := inv_of_quiet (by decide) (by decide) (by decide) (by decide)

theorem witness_EveryStepKeepsInv :
    BlockInv State.reset ∧ (∃ t, exec .tck State.reset = .next t) ∧ (∃ t, step State.reset = .next t) :=
  ⟨inv_reset, ⟨_, rfl⟩, ⟨_, rfl⟩⟩

/-- What `ops` leads to from reset with the lines at `btn` and `flt` is reachable. -/
theorem reachable_from_reset {t : State} (ops : List Instr) (btn flt : Level)
    (run : runOps ops (State.resetIn btn flt []) = .next t) : Reachable t :=
  Laws.reachable_of_runOps (.reset btn flt []) run

/-- Every guard of R48 is met in a reachable state: I1 on either side, I3 Green and Red, I4 and I8, I5 masked and asleep with
I7, I6 for each latch, I9 at each of its phases. -/
theorem witness_ReachableStatesKeepR48 :
    (∃ s, Reachable s ∧ s.powerRequested = true ∧ s.phase = 6#3 ∧ s.indicator = .green) ∧
    (∃ s, Reachable s ∧ s.faultLatched = true ∧ s.phase = 6#3 ∧ s.indicator = .red) ∧
    (∃ s, Reachable s ∧ s.pressEvent = true ∧ s.phase = 2#3) ∧
    (∃ s, Reachable s ∧ s.intEnable = false ∧ s.phase = 7#3 ∧ s.tickIrq = true ∧ s.pcIrq = false) ∧
    (∃ s, Reachable s ∧ s.intEnable = false ∧ s.phase = 7#3 ∧ s.tickIrq = false ∧ s.pcIrq = true) ∧
    (∃ s, Reachable s ∧ s.asleep = true ∧ s.phase = 0#3) ∧ (∃ s, Reachable s ∧ s.phase = 1#3) :=
  ⟨⟨_, reachable_from_reset [.tck, .btn, .act, .flt, .ack, .out] false true rfl, rfl, rfl, rfl⟩,
    ⟨_, reachable_from_reset [.tck, .btn, .act, .flt, .ack, .out] true false rfl, rfl, rfl, rfl⟩,
    ⟨_, reachable_from_reset [.tck, .btn] false true rfl, rfl, rfl⟩,
    ⟨_, reachable_from_reset [.tck, .btn, .act, .flt, .ack, .out, .cli, .tick] true true rfl, rfl, rfl, rfl, rfl⟩,
    ⟨_, reachable_from_reset [.tck, .btn, .act, .flt, .ack, .out, .cli, .fltpin false] true true rfl, rfl, rfl, rfl, rfl⟩,
    ⟨_, reachable_from_reset iterOps true true rfl, rfl, rfl⟩, ⟨_, reachable_from_reset [.tck] true true rfl, rfl⟩⟩

/-- Reachable: a fault latched and driven outside phases 3, 4 and 5; a step from reset answers. -/
theorem witness_ReachablePowerOffWhileLatched :
    (∃ s, Reachable s ∧ s.phase ≠ 4#3 ∧ s.phase ≠ 5#3 ∧ s.phase ≠ 3#3 ∧ s.faultLatched = true ∧ s.ackPulseActive = true) ∧
    Reachable State.reset ∧ (∃ t, step State.reset = .next t) :=
  ⟨⟨_, reachable_from_reset [.tck, .btn, .act, .flt, .ack, .out] true false rfl, by decide⟩,
    Reachable.reset true true [], ⟨_, rfl⟩⟩

/-! ### Witnesses: whole-machine rules -/

/-- Each field is changed by some operation, so that no clause of R51's frame is empty. -/
theorem witness_OnlyListedOpsWrite :
    (∃ s t, exec .tick s = .next t ∧ isReset .tick s = false ∧ t.tick ≠ s.tick ∧ t.tickPending ≠ s.tickPending) ∧
    (∃ s t, exec .btn s = .next t ∧ isReset .btn s = false ∧ t.rawButtonState ≠ s.rawButtonState ∧
      t.debouncedButtonState ≠ s.debouncedButtonState ∧ t.debounceGate ≠ s.debounceGate ∧
      t.lastActivity ≠ s.lastActivity ∧ t.pressEvent ≠ s.pressEvent ∧ t.phase ≠ s.phase) ∧
    (∃ s t, exec .flt s = .next t ∧ isReset .flt s = false ∧ t.powerRequested ≠ s.powerRequested ∧
      t.faultLineState ≠ s.faultLineState ∧ t.faultLatched ≠ s.faultLatched ∧
      t.ackPulseActive ≠ s.ackPulseActive ∧ t.ackPulseStart ≠ s.ackPulseStart) ∧
    (∃ s t, exec .out s = .next t ∧ isReset .out s = false ∧ t.powerEnabled ≠ s.powerEnabled ∧
      t.indicator ≠ s.indicator) ∧
    (∃ s t, exec .slp s = .next t ∧ isReset .slp s = false ∧ t.intEnable ≠ s.intEnable ∧ t.tickIrq ≠ s.tickIrq ∧
      t.pcIrq ≠ s.pcIrq) ∧
    (∃ s t, exec .slp s = .next t ∧ isReset .slp s = false ∧ t.asleep ≠ s.asleep) ∧
    (∃ s t, exec (.btnpin false) s = .next t ∧ isReset (.btnpin false) s = false ∧ t.btnPin ≠ s.btnPin) ∧
    (∃ s t, exec (.fltpin false) s = .next t ∧ isReset (.fltpin false) s = false ∧ t.fltExt ≠ s.fltExt) :=
  ⟨⟨State.reset, _, rfl, by decide⟩, ⟨{ startAt 1#3 with tick := 9#8, btnPin := false }, _, rfl, by decide⟩,
    ⟨{ startAt 3#3 with tick := 7#8, powerRequested := true, fltExt := false }, _, rfl, by decide⟩,
    ⟨{ startAt 5#3 with powerRequested := true }, _, rfl, by decide⟩,
    ⟨{ masked with tickIrq := true, pcIrq := true }, _, rfl, by decide⟩, ⟨masked, _, rfl, by decide⟩,
    ⟨State.reset, _, rfl, by decide⟩, ⟨State.reset, _, rfl, by decide⟩⟩

theorem witness_InterruptSideFrame : isReset .tick { masked with tickIrq := false } = false := by decide

theorem witness_PhaseAdvancesModEight :
    (∃ t, exec .slp masked = .next t ∧ Instr.agent .slp = .sequencer ∧ masked.phase = 7#3) ∧
    (∃ t, exec .tick masked = .next t ∧ Instr.agent .tick ≠ .sequencer ∧ isReset .tick masked = false) ∧
    (∃ t, exec .rst masked = .next t ∧ isReset .rst masked = true) :=
  ⟨⟨_, rfl, by decide⟩, ⟨_, rfl, by decide⟩, ⟨_, rfl, by decide⟩⟩

theorem witness_SleepHoldsAllFields :
    sleeping.asleep = true ∧ sleeping.intEnable = true ∧
    (∃ t, exec (.btnpin false) sleeping = .next t ∧ t.asleep = true) ∧
    (∃ t, exec .tick sleeping = .next t ∧ t.asleep = false) ∧
    (∃ t, exec (.fltpin false) sleeping = .next t ∧ t.asleep = false) :=
  ⟨rfl, rfl, ⟨_, rfl, rfl⟩, ⟨_, rfl, rfl⟩, ⟨_, rfl, rfl⟩⟩

theorem witness_SleepEnteredOnlyBySlp :
    masked.asleep = false ∧ (∃ t, exec .slp masked = .next t ∧ t.asleep = true) := ⟨rfl, _, rfl, rfl⟩

/-- The critical region with anything held has the invariant. -/
theorem inv_masked (tickHeld pcHeld : Bit) : BlockInv { masked with tickIrq := tickHeld, pcIrq := pcHeld } := by
  constructor <;> simp [masked, startAt, State.reset, derivedIndicator]

theorem witness_LatchesSetOnlyWhileMasked :
    (BlockInv masked ∧ masked.tickIrq = false ∧ ∃ t, exec .tick masked = .next t ∧ t.tickIrq = true) ∧
    (BlockInv masked ∧ masked.pcIrq = false ∧ ∃ t, exec (.fltpin false) masked = .next t ∧ t.pcIrq = true) ∧
    (∃ s t, BlockInv s ∧ exec .slp s = .next t ∧ s.tickIrq = true ∧ t.tickIrq = false ∧ s.pcIrq = true ∧
      t.pcIrq = false) ∧
    (∃ s t, BlockInv s ∧ exec .tick s = .next t ∧ isReset .tick s = true ∧ s.pcIrq = true ∧ t.pcIrq = false) :=
  ⟨⟨inv_masked false false, rfl, _, rfl, rfl⟩, ⟨inv_masked false false, rfl, _, rfl, rfl⟩,
    ⟨_, _, inv_masked true true, rfl, rfl, rfl, rfl, rfl⟩, ⟨_, _, inv_masked true true, rfl, rfl, rfl, rfl⟩⟩

/-- A state with the invariant for each of the five transitions. -/
theorem witness_FaultLatchTransitions :
    (∃ s t, BlockInv s ∧ exec .flt s = .next t ∧ s.latchState = .sensing ∧ t.latchState = .acknowledging) ∧
    (∃ s t, BlockInv s ∧ exec .ack s = .next t ∧ s.latchState = .acknowledging ∧ t.latchState = .latched) ∧
    (∃ s t, BlockInv s ∧ exec .act s = .next t ∧ s.latchState = .latched ∧ t.latchState = .sensing) ∧
    (∃ s t, BlockInv s ∧ exec .act s = .next t ∧ s.latchState = .acknowledging ∧ t.latchState = .orphan) ∧
    (∃ s t, BlockInv s ∧ exec .flt s = .next t ∧ s.latchState = .orphan ∧ t.latchState = .acknowledging) := by
  refine ⟨⟨{ startAt 3#3 with fltExt := false }, _,
      inv_of_quiet (by decide) (by decide) (by decide) (by decide), rfl, rfl, rfl⟩,
    ⟨{ drivingAt 4#3 with tick := 2#8 }, _, inv_of_quiet (by decide) (by decide) (by decide) (by decide), rfl, rfl, rfl⟩,
    ⟨pressedAt (latchedAt 2#3), _, ?_, rfl, rfl, rfl⟩, ⟨pressedAt (drivingAt 2#3), _, ?_, rfl, rfl, rfl⟩,
    ⟨{ drivingAt 3#3 with faultLatched := false }, _, ?_, rfl, rfl, rfl⟩⟩ <;>
  constructor <;> simp [pressedAt, latchedAt, drivingAt, startAt, State.reset, derivedIndicator, settledPhase]

/-! ### Witnesses: the fault latch over runs -/

theorem witness_FaultMemoryPersists :
    (latchedAt 4#3).faultLatched = true ∧ countAlong isPressApplied [.ack, .out, .tick] (latchedAt 4#3) = 0 ∧
    noReset [.ack, .out, .tick] (latchedAt 4#3) ∧ (∃ t, runOps [.ack, .out, .tick] (latchedAt 4#3) = .next t) :=
  ⟨rfl, rfl, rfl, _, rfl⟩

theorem witness_PowerStaysOffUntilPress :
    ∃ s : State, s.fltN = false ∧ s.powerRequested = true ∧ ¬(s.powerRequested = true ∧ s.faultLatched = true) ∧
      countAlong isPressApplied [.flt, .ack, .fltpin true, .out] s = 0 ∧
      ∃ t, runOps [.flt, .ack, .fltpin true, .out] s = .next t :=
  ⟨{ startAt 3#3 with fltExt := false, powerRequested := true }, rfl, rfl, by decide, rfl, _, rfl⟩

theorem witness_NoRetriggerWhileLatched :
    ∃ s : State, s.faultLatched = true ∧ s.ackPulseActive = false ∧ s.fltN = false ∧
      countAlong isPressApplied [.flt, .ack] s = 0 ∧ noReset [.flt, .ack] s ∧ ∃ t, runOps [.flt, .ack] s = .next t :=
  ⟨{ latchedAt 3#3 with fltExt := false }, rfl, rfl, rfl, rfl, rfl, _, rfl⟩

theorem witness_ClearingPressRelatches :
    (∃ s : State, s.asleep = false ∧ s.phase = 2#3 ∧ s.pressEvent = true ∧ s.faultLatched = true ∧ s.fltExt = false) ∧
    (∃ s : State, s.asleep = false ∧ s.phase = 2#3 ∧ s.pressEvent = true ∧ s.faultLatched = true ∧ s.fltExt = true ∧
      s.ackPulseActive = true) :=
  ⟨⟨{ pressedAt (latchedAt 2#3) with fltExt := false }, by decide⟩, ⟨pressedAt (drivingAt 2#3), by decide⟩⟩

theorem witness_FaultCutsPowerInIteration :
    ∃ s : State, [Instr.tick].all isBetween = true ∧ [Instr.fltpin true].all isBetween = true ∧ s.fltN = false ∧
      s.faultLatched = false ∧ s.powerRequested = true ∧ noReset [.flt, .tick, .ack, .fltpin true, .out] s ∧
      ∃ t, runOps [.flt, .tick, .ack, .fltpin true, .out] s = .next t :=
  ⟨{ startAt 3#3 with fltExt := false, powerRequested := true }, rfl, rfl, rfl, rfl, rfl, rfl, _, rfl⟩

theorem witness_PulseSpansTwoFirings :
    ∃ s : State, s.fltN = false ∧ s.faultLatched = false ∧ s.tickIrq = false ∧ firings [.tick, .ack] = 1 ∧
      Instr.rst ∉ [Instr.tick, .ack] ∧ ∃ t, runOps [.flt, .tick, .ack] s = .next t :=
  ⟨{ startAt 3#3 with fltExt := false }, rfl, rfl, rfl, rfl, by decide, _, rfl⟩

/-! ### Witnesses: debounce, ticks, sleep -/

theorem witness_HeldButtonKeepsGateClosed :
    ∃ s : State, s.btnPin = false ∧ s.debounceGate = false ∧ Instr.btnpin true ∉ [Instr.tick, .btn, .act] ∧
      noReset [.tick, .btn, .act] s ∧ ∃ t, runOps [.tick, .btn, .act] s = .next t :=
  ⟨{ startAt 1#3 with btnPin := false, debounceGate := false }, rfl, rfl, by decide, rfl, _, rfl⟩

theorem witness_NoFiringIsLost :
    respectsEnv1 [.cli, .tick, .slp] (startAt 6#3) ∧ Instr.rst ∉ [Instr.cli, .tick, .slp] ∧
    ∃ t, runOps [.cli, .tick, .slp] (startAt 6#3) = .next t := ⟨rfl, by decide, _, rfl⟩

theorem witness_FiringRememberedUntilConsumed :
    Instr.tck ∉ [Instr.cli, .tick, .slp] ∧ noReset [.cli, .tick, .slp] (startAt 6#3) ∧
    1 ≤ firings [.cli, .tick, .slp] ∧ ∃ t, runOps [.cli, .tick, .slp] (startAt 6#3) = .next t :=
  ⟨by decide, rfl, by decide, _, rfl⟩

theorem witness_HeldInterruptEndsSleep :
    masked.asleep = false ∧ masked.phase = 7#3 ∧ masked.intEnable = false ∧ masked.tickIrq = false ∧
    masked.pcIrq = false ∧ [Instr.tick, .fltpin false].all isBetween = true ∧ firings [.tick, .fltpin false] ≤ 1 := by decide

theorem witness_Env1ExcludesFailSafeReset :
    (respectsEnv1 [.tick, .slp, .tick] masked ∧ Instr.rst ∉ [Instr.tick, .slp, .tick]) ∧
    (∃ u, respectsEnv1 ([.cli] ++ .tick :: [.slp]) (startAt 6#3) ∧ runOps [.cli] (startAt 6#3) = .next u ∧
      u.intEnable = false) ∧
    (∃ u, respectsEnv1 ([] ++ .tick :: [.tick]) sleeping ∧ runOps [] sleeping = .next u ∧ u.intEnable = true) :=
  ⟨⟨rfl, by decide⟩, ⟨_, rfl, rfl, rfl⟩, ⟨_, rfl, rfl, rfl⟩⟩

/-- One state for each of the three phases, with the power on. -/
theorem witness_LateFaultEdgeWaitsOneTick :
    [4#3, 5#3, 6#3].all (fun p =>
      let s : State := { startAt p with powerRequested := true, powerEnabled := true, indicator := .green }
      decide (s.asleep = false ∧ (s.phase = 4#3 ∨ s.phase = 5#3 ∨ s.phase = 6#3) ∧ s.intEnable = true ∧
        s.tickPending = false ∧ s.tickIrq = false ∧ s.faultLatched = false ∧ s.ackPulseActive = false ∧
        s.fltExt = true)) = true := by decide

theorem witness_ExtraIterationHarmless :
    BlockInv (drivingAt 0#3) ∧ (drivingAt 0#3).asleep = false ∧ (drivingAt 0#3).phase = 0#3 :=
  ⟨inv_of_quiet (by decide) (by decide) (by decide) (by decide), rfl, rfl⟩

/-- The longest way to sleep: an unconsumed tick just after `TCK`. -/
theorem witness_AwakeBlockFallsAsleep :
    ∃ s : State, BlockInv s ∧ s.asleep = false ∧ s.trace = [] ∧ s.phase = 1#3 ∧ s.tickPending = true :=
  ⟨{ startAt 1#3 with tickPending := true }, inv_of_quiet (by decide) (by decide) (by decide) (by decide), by decide⟩

/-! ### Witnesses: what cannot be observed, lines, arithmetic -/

theorem witness_OnlyTickDifferencesMatter : isReset .btn (startAt 1#3) = false := rfl

theorem witness_StaleStampsUnobservable :
    ∃ s s' : State, sameButStaleStamps s s' ∧ s ≠ s' ∧ ∃ t, exec .btn s = .next t :=
  ⟨startAt 1#3, { startAt 1#3 with lastActivity := 9#8, ackPulseStart := 7#8 }, ⟨rfl, by decide, by decide⟩, by decide, _, rfl⟩

theorem witness_OutputsPureAndIdempotent :
    ∃ s s' t t' : State, exec .out s = .next t ∧ exec .out s' = .next t' ∧ s.powerRequested = s'.powerRequested ∧
      s.faultLatched = s'.faultLatched ∧ s ≠ s' :=
  ⟨startAt 5#3, { startAt 5#3 with tick := 9#8 }, _, _, rfl, rfl, rfl, rfl, by decide⟩

theorem witness_FaultLineIsWiredAnd : ∃ s : State, s.ackPulseActive = true := ⟨drivingAt 0#3, rfl⟩

theorem witness_AgeIsModular : (255 : Nat) < 256 := by decide

theorem witness_TupleRoundTrip :
    State.ofTuple? (drivingAt 3#3).tuple false true = some { drivingAt 3#3 with btnPin := false } := by decide

theorem witness_AckPinChangeInvisible :
    ∃ s t : State, BlockInv s ∧ exec .ack s = .next t ∧ s.ackPulseActive = true ∧ t.ackPulseActive = false :=
  ⟨{ drivingAt 4#3 with tick := 2#8 }, _, inv_of_quiet (by decide) (by decide) (by decide) (by decide), rfl, rfl, rfl⟩

end Sys2Proof.Tests
end

/-! SUPPORT. The statements of 00_scope.md: tick arithmetic (R12, R103), the step that takes a waiting or a placed word (R14,
R46, R89), and runs spelled by a waiting trace (R14, R70, R90). -/

namespace Sys2Proof.Proofs

open Sys2Proof.Machine Sys2Proof.Laws

/-! ### Word arithmetic -/

/-- The increment wraps (R12). -/
theorem nextTick_toNat (t : TickVal) : (nextTick t).toNat = (t.toNat + 1) % 256 := BitVec.toNat_add t 1#8

/-- The subtraction wraps (R12, R103). -/
theorem ageOf_toNat (now since : TickVal) : (ageOf now since).toNat = (now.toNat + 256 - since.toNat) % 256 := by
  have wraps : (ageOf now since).toNat = (256 - since.toNat + now.toNat) % 256 := BitVec.toNat_sub now since
  have := since.isLt
  omega

/-- The age counts the ticks since the stamp (R103). -/
theorem ageOf_add_left (since n : TickVal) : ageOf (since + n) since = n := add_sub_cancel_left since n

/-- Settles O57, by the arithmetic of `BitVec 8`. -/
theorem ageIsModular : Obligations.AgeIsModular := by
  refine ⟨nextTick_toNat, ageOf_toNat, fun since n below => ?_⟩
  rw [ageOf_add_left, BitVec.toNat_ofNat, Nat.mod_eq_of_lt below]

/-! ### Decoding a waiting word -/

/-- A waiting word that names no operation is refused (R90, log 1). -/
theorem step_reserved {s : State} {w : OpWord} {rest : List OpWord} {e : DecodeError}
    (waits : s.trace = w :: rest) (reserved : decode w = .error e) : step s = .refused (.reservedWord e) := by
  simp [step, nextTurn, waits, reserved]

/-- Settles O20: the two ways a waiting word can decode. -/
theorem stepRunsDecodedWord : Obligations.StepRunsDecodedWord :=
  fun _ _ _ waits => ⟨fun _ names => step_word waits names, fun _ reserved => step_reserved waits reserved⟩

/-- The decoder reads back the operation the encoder wrote (R80 to R85). -/
@[simp] theorem decode_encode (i : Instr) : decode (encode i) = .ok i := by
  cases i with
  | tck | btn | act | flt | ack | out | cli | slp | tick | rst => rfl
  | btnpin v | fltpin v => cases v <;> rfl

/-- The table row of a word of eight bits is the word (log 12). -/
theorem tableWord?_toNat (w : OpWord) : tableWord? 8 w.toNat = some w := by
  have fits : w.toNat < 256 := w.isLt
  simp [tableWord?, fits]

/-- The table row of an operation names it (R89). -/
theorem decodeTableWord_encode (i : Instr) : decodeTableWord 8 (encode i).toNat = some i := by
  simp [decodeTableWord, tableWord?_toNat]

/-! ### Where an operation runs -/

/-- An operation with a phase code is a `microOp` of that code (R46, R86). -/
theorem exec_eq_microOp {i : Instr} {code : PhaseCode} (has : i.phaseCode? = some code) :
    ∃ effect, ∀ s, exec i s = microOp code effect s := by
  cases i with
  | tck | btn | act | flt | ack | out | cli | slp => cases has; exact ⟨_, fun _ => rfl⟩
  | tick | rst | btnpin | fltpin => cases has

/-- An operation without a phase code is never refused (R46). -/
theorem exec_next_of_phaseCode?_none {i : Instr} (plain : i.phaseCode? = none) (s : State) : ∃ t, exec i s = .next t := by
  cases i with
  | tck | btn | act | flt | ack | out | cli | slp => cases plain
  | tick | rst | btnpin | fltpin => exact ⟨_, rfl⟩

/-- The operations without a phase code are those that are not the sequencer's (R17, R86). -/
theorem phaseCode?_eq_none_iff {i : Instr} : i.phaseCode? = none ↔ i.agent ≠ .sequencer := by
  cases i <;> simp [Instr.phaseCode?, Instr.agent]

/-- An operation answers a next state exactly where it is enabled (R46). -/
theorem exec_next_iff_enabled {i : Instr} {s : State} : (∃ t, exec i s = .next t) ↔ enabled i s = true := by
  cases has : i.phaseCode? with
  | none => simp [enabled, has, exec_next_of_phaseCode?_none has]
  | some code =>
    obtain ⟨effect, runs⟩ := exec_eq_microOp has
    simp [enabled, has, runs, microOp_next_iff]

/-- Whether an operation is refused, and why, is told from `Asleep` and `Phase` alone (R46, R90). -/
theorem exec_refused_congr {i : Instr} {s u : State} {r : Refusal} (asleep : u.asleep = s.asleep)
    (phase : u.phase = s.phase) (refused : exec i s = .refused r) : exec i u = .refused r := by
  cases has : i.phaseCode? with
  | none =>
    obtain ⟨t, runs⟩ := exec_next_of_phaseCode?_none has s
    exact absurd (runs.symm.trans refused) nofun
  | some code =>
    obtain ⟨effect, runs⟩ := exec_eq_microOp has
    rw [runs] at refused ⊢
    cases awake : s.asleep with
    | true => rwa [microOp_asleep (asleep.trans awake), ← microOp_asleep awake]
    | false =>
      have other : s.phase ≠ code := fun here => nomatch (microOp_enabled awake here).symm.trans refused
      rwa [microOp_outOfPhase (asleep.trans awake) (phase ▸ other), phase, ← microOp_outOfPhase awake other]

/-! ### Placing a word -/

/-- Selecting the place for a word leaves what waits alone (log 5). -/
theorem selectFor_trace (w : OpWord) (s : State) : (selectFor w s).trace = s.trace := by
  unfold selectFor
  split <;> rfl

/-- The step after placing a word runs its operation where the word was selected for (log 5). -/
theorem step_placeWord {w : OpWord} {i : Instr} (names : decode w = .ok i) (s : State) :
    step (placeWord w s) = exec i (selectFor w s) := by
  have unplaced : { placeWord w s with trace := s.trace } = selectFor w s := by
    rw [← selectFor_trace w s]; rfl
  rw [step_word rfl names, unplaced]

/-- A micro-operation is selected by waking the block at its phase; any other word selects nothing (R46, log 5). -/
theorem selectFor_encode (i : Instr) (s : State) :
    selectFor (encode i) s = i.phaseCode?.elim s fun code => { s with phase := code, asleep := false } := by
  cases i with
  | tck | btn | act | flt | ack | out | cli | slp | tick | rst => rfl
  | btnpin v | fltpin v => cases v <;> rfl

/-- Where its word selects, an operation is enabled (R46). -/
theorem enabled_selectFor_encode (i : Instr) (s : State) : enabled i (selectFor (encode i) s) = true := by
  cases has : i.phaseCode? <;> simp [enabled, selectFor_encode, has]

/-- Placing a table word of eight bits is placing the word (log 5). -/
theorem withFetchWord_toNat (s : State) (w : OpWord) : s.withFetchWord 8 w.toNat = placeWord w s := by
  have fits : w.toNat % 2 ^ 8 = w.toNat := Nat.mod_eq_of_lt w.isLt
  simp only [State.withFetchWord, fits, BitVec.ofNat_toNat, BitVec.setWidth_eq]

/-- Settles O22: the word selects a state in which its operation is enabled, and the step runs it there. -/
theorem placedWordRunsNext : Obligations.PlacedWordRunsNext := by
  intro i s
  obtain ⟨t, runs⟩ := exec_next_iff_enabled.mpr (enabled_selectFor_encode i s)
  refine ⟨decodeTableWord_encode i, selectFor (encode i) s, t, ?_, runs, ?_, fun other => ?_⟩
  · rw [withFetchWord_toNat, step_placeWord (decode_encode i)]
  · rw [selectFor_encode]; cases i.phaseCode? <;> rfl
  · rw [selectFor_encode, phaseCode?_eq_none_iff.mpr other]; rfl

/-! ### No operation reads what waits -/

/-- Every way an operation can go is told from the fields of the state and not from what waits (log 1, log 13). -/
theorem taken_trace {i : Instr} {s t : State} (taken : Taken s i t) (ws : List OpWord) :
    Taken { s with trace := ws } i { t with trace := ws } := by
  cases taken <;> constructor <;> assumption

/-- No operation reads or writes what waits: the outcome is the same but for `trace` (log 1, log 13). -/
theorem exec_trace (i : Instr) (s : State) (ws : List OpWord) :
    exec i { s with trace := ws } = mapNext (fun t => { t with trace := ws }) (exec i s) := by
  cases answer : exec i s with
  | next t => exact exec_of_taken (taken_trace (taken_of_exec answer) ws)
  | fault r => exact absurd answer no_fault
  | refused r => exact exec_refused_congr (s := s) rfl rfl answer

/-- A step whose waiting word is `i`'s runs `i` and takes the word off, from any state but for `trace` (log 1). -/
theorem step_encode_cons (i : Instr) (ws : List OpWord) (s : State) :
    step { s with trace := encode i :: ws } = mapNext (fun t => { t with trace := ws }) (exec i s) := by
  rw [step_word rfl (decode_encode i), ← exec_trace]

/-- A run of a machine goes on from the state its first step answers. -/
theorem run_succ_of_next {M : Host.Core} {k : Nat} {s t : M.State} (stepped : M.step s = .next t) :
    M.run (k + 1) s = M.run k t := by
  rw [Host.Core.run, stepped]

/-- A run of a machine ends at a refused step. -/
theorem run_succ_of_refused {M : Host.Core} {k : Nat} {s : M.State} {r : M.Refusal} (stopped : M.step s = .refused r) :
    M.run (k + 1) s = .refused r := by
  rw [Host.Core.run, stopped]

/-- Settles O23, by induction on the operations: each step takes one word off and runs its operation, which does not read
the words behind it. -/
theorem traceDrivenRunsAreRuns : Obligations.TraceDrivenRunsAreRuns := by
  intro is rest
  induction is with
  | nil => intro s; rfl
  | cons i is ih =>
    intro s
    have stepped := step_encode_cons i (encodeTrace is ++ rest) s
    rw [runOps, exec_trace i s rest]
    cases first : exec i s with
    | next t => rw [first] at stepped; exact (run_succ_of_next stepped).trans (ih t)
    | fault r => exact absurd first no_fault
    | refused r => rw [first] at stepped; exact run_succ_of_refused stepped

end Sys2Proof.Proofs

/-! SUPPORT. The statements of 10_state.md: the invariant of R47 and R48 and the reachable states, which operations run
(R46) and what they write (R45, R51), what runs keep (R30, R72), what cannot be observed (R21, R23, R26, R29, R32), the
written form of a state (R20) and the output lines (R41). -/

namespace Sys2Proof.Proofs

open Sys2Proof.Machine Sys2Proof.Laws

variable {s t : State} {i : Instr}

/-! ### The three parts of the invariant

No fact of one part is needed to keep another, so each is kept by itself. -/

/-- What `BlockInv` says of the interrupts and of sleep (R48 I5, I6, I7). -/
structure ArbiterInv (s : State) : Prop where
  maskedExactlyAtSlp : s.intEnable = false ↔ s.phase = 7#3
  asleepAtBoundary : s.asleep = true → s.phase = 0#3
  heldAtSlp : s.tickIrq = true ∨ s.pcIrq = true → s.phase = 7#3
  asleepConsumed : s.asleep = true → s.tickPending = false

/-- What `BlockInv` says of the debounce filter (R48 I4, I8). -/
structure FilterInv (s : State) : Prop where
  pressAtAct : s.pressEvent = true → s.phase = 2#3
  pressGateClosed : s.pressEvent = true → s.debounceGate = false ∧ s.debouncedButtonState = true
  heldGateClosed : s.debouncedButtonState = true → s.debounceGate = false
  samplesAgree : s.rawButtonState = s.debouncedButtonState

/-- What `BlockInv` says of the fault latch and the outputs (R47, R48 I1, I3, I9, R120, R193). -/
structure PowerInv (s : State) : Prop where
  requestedNotLatched : ¬ (s.powerRequested = true ∧ s.faultLatched = true)
  greenIffEnabled : s.indicator = .green ↔ s.powerEnabled = true
  outputsFollow : settledPhase s.phase →
    s.powerEnabled = s.powerRequested ∧ s.indicator = derivedIndicator s.powerRequested s.faultLatched
  enabledNotLatched : s.phase ≠ 4#3 → s.phase ≠ 5#3 → ¬ (s.powerEnabled = true ∧ s.faultLatched = true)
  ackLatched : s.phase ≠ 3#3 → s.ackPulseActive = true → s.faultLatched = true
  ackNotRequested : s.ackPulseActive = true → s.powerRequested = false
  pulseSampled : s.ackPulseActive = true → s.faultLineState = true

/-- The three parts are the whole invariant. -/
theorem blockInv_iff : BlockInv s ↔ ArbiterInv s ∧ FilterInv s ∧ PowerInv s :=
  ⟨fun inv => ⟨{ inv with }, { inv with }, { inv with }⟩,
    fun ⟨arbiter, filter, power⟩ => { arbiter, filter, power with }⟩

/-! ### The arbiter keeps its part -/

/-- Before `SLP` interrupts are enabled and nothing is held (R48 I5, I6). -/
theorem ArbiterInv.beforeSlp (inv : ArbiterInv s) (before : s.phase ≠ 7#3) :
    s.intEnable = true ∧ s.tickIrq = false ∧ s.pcIrq = false := by
  have enabled := mt inv.maskedExactlyAtSlp.mp before
  have unheld := mt inv.heldAtSlp before
  simpa using And.intro enabled unheld

/-- With interrupts enabled the block stands before `SLP` (R48 I5). -/
theorem ArbiterInv.phase_ne_of_enabled (inv : ArbiterInv s) (enabled : s.intEnable = true) : s.phase ≠ 7#3 :=
  mt inv.maskedExactlyAtSlp.mpr (by simp [enabled])

/-- With interrupts disabled the block is awake at `SLP` (R48 I5). -/
theorem ArbiterInv.of_masked_atSlp (inv : ArbiterInv s) (masked : s.intEnable = false) :
    s.phase = 7#3 ∧ s.asleep = false := by
  have atSlp := inv.maskedExactlyAtSlp.mp masked
  have awake : s.asleep ≠ true := mt inv.asleepAtBoundary (by simp [atSlp])
  exact ⟨atSlp, by simpa using awake⟩

/-- The part holds before `SLP` with nothing held. -/
theorem arbiterInv_of_enabled (enabled : s.intEnable = true) (unheld : s.tickIrq = false ∧ s.pcIrq = false)
    (before : s.phase ≠ 7#3) (sleep : s.asleep = true → s.phase = 0#3 ∧ s.tickPending = false) : ArbiterInv s where
  maskedExactlyAtSlp := by simp [enabled, before]
  asleepAtBoundary := fun asleep => (sleep asleep).1
  heldAtSlp := by simp [unheld]
  asleepConsumed := fun asleep => (sleep asleep).2

/-- The part holds at `SLP` with interrupts disabled, whatever is held. -/
theorem arbiterInv_of_masked (masked : s.intEnable = false) (atSlp : s.phase = 7#3) (awake : s.asleep = false) :
    ArbiterInv s where
  maskedExactlyAtSlp := by simp [masked, atSlp]
  asleepAtBoundary := by simp [awake]
  heldAtSlp := fun _ => atSlp
  asleepConsumed := by simp [awake]

/-- Every operation keeps I5, I6 and I7. -/
theorem ArbiterInv.taken (inv : ArbiterInv s) (taken : Taken s i t) : ArbiterInv t := by
  cases taken with
  | tck awake here | btn awake here | act awake here | flt awake here | ack awake here | out awake here =>
    obtain ⟨enabled, tick, pc⟩ := inv.beforeSlp (by simp [here])
    exact arbiterInv_of_enabled enabled ⟨tick, by simp [pc]⟩ (by simp) (by simp [awake])
  | cli awake here => exact arbiterInv_of_masked rfl rfl awake
  | slp awake here => exact arbiterInv_of_enabled rfl ⟨rfl, rfl⟩ (by simp) (by simp +contextual)
  | tickDelivered enabled =>
    have before := inv.phase_ne_of_enabled enabled
    obtain ⟨-, -, pc⟩ := inv.beforeSlp before
    exact arbiterInv_of_enabled enabled ⟨rfl, pc⟩ before nofun
  | fltpinDelivered v moved idle enabled =>
    have before := inv.phase_ne_of_enabled enabled
    obtain ⟨-, tick, -⟩ := inv.beforeSlp before
    exact arbiterInv_of_enabled enabled ⟨tick, rfl⟩ before nofun
  | tickHeld masked | fltpinHeld v moved idle masked =>
    obtain ⟨atSlp, awake⟩ := inv.of_masked_atSlp masked
    exact arbiterInv_of_masked masked atSlp awake
  | tickFatal | rst => exact arbiterInv_of_enabled rfl ⟨rfl, rfl⟩ (by simp) nofun
  | btnpin | fltpinSilent => exact { inv with }

/-! ### The filter keeps its part -/

/-- Outside `ACT` no press waits (R48 I4). -/
theorem FilterInv.unpressed (inv : FilterInv s) (other : s.phase ≠ 2#3) : s.pressEvent = false := by
  simpa using mt inv.pressAtAct other

/-- `BTN` keeps the part: a pressed sample leaves the gate closed, and a press is emitted by closing it (R112). -/
theorem FilterInv.btn (inv : FilterInv s) (taken : Taken s .btn t) : FilterInv t := by
  cases taken with
  | btn awake here =>
    have unpressed := inv.unpressed (by simp [here])
    have closed := inv.heldGateClosed
    constructor
    case pressAtAct => exact fun _ => rfl
    case pressGateClosed => simp +contextual [unpressed]
    case heldGateClosed => cases prev : s.debouncedButtonState <;> simp_all
    case samplesAgree => rfl

/-- Every operation keeps I4 and I8. -/
theorem FilterInv.taken (inv : FilterInv s) (taken : Taken s i t) : FilterInv t := by
  cases taken with
  | btn awake here => exact inv.btn (.btn awake here)
  | act => exact { inv with pressAtAct := nofun, pressGateClosed := nofun }
  | tck awake here | flt awake here | ack awake here | out awake here | cli awake here | slp awake here =>
    have unpressed := inv.unpressed (by simp [here])
    exact { inv with pressAtAct := by simp [unpressed] }
  | tickFatal | rst => constructor <;> simp
  | tickDelivered | tickHeld | btnpin | fltpinSilent | fltpinDelivered | fltpinHeld => exact { inv with }

/-! ### The latch and the outputs keep their part -/

/-- Leaving a settled phase, whatever the next one, changes nothing of the part. -/
theorem PowerInv.leave (inv : PowerInv s) (here : settledPhase s.phase) (p : PhaseCode) :
    PowerInv { s with phase := p } := by
  have outside : s.phase ≠ 3#3 ∧ s.phase ≠ 4#3 ∧ s.phase ≠ 5#3 := by
    rcases here with here | here | here | here | here <;> simp [here]
  obtain ⟨no3, no4, no5⟩ := outside
  exact { inv with
    outputsFollow := fun _ => inv.outputsFollow here
    enabledNotLatched := fun _ _ => inv.enabledNotLatched no4 no5
    ackLatched := fun _ => inv.ackLatched no3 }

/-- `ACT` keeps the part: a press clears the latch or toggles the request, never both (R121). -/
theorem PowerInv.act (inv : PowerInv s) (taken : Taken s .act t) : PowerInv t := by
  cases taken with
  | act awake here =>
    have apart := inv.requestedNotLatched
    have outputs := inv.enabledNotLatched (by simp [here]) (by simp [here])
    have driven := inv.ackLatched (by simp [here])
    exact { inv with
      requestedNotLatched := by cases latched : s.faultLatched <;> simp_all
      outputsFollow := by simp [settledPhase]
      enabledNotLatched := fun _ _ => by cases latched : s.faultLatched <;> simp_all
      ackLatched := fun other => absurd rfl other
      ackNotRequested := fun drives => by simp [driven drives, inv.ackNotRequested drives] }

/-- `FLT` keeps the part: it latches together with withdrawing the request and driving the line (R123). -/
theorem PowerInv.flt (inv : PowerInv s) (taken : Taken s .flt t) : PowerInv t := by
  cases taken with
  | flt =>
    have apart := inv.requestedNotLatched
    have unrequested := inv.ackNotRequested
    have low : s.ackPulseActive = true → s.faultActive = true := fun drives => faultActive_eq_true.mpr (.inr drives)
    exact { inv with
      requestedNotLatched := by cases latched : s.faultLatched <;> simp_all
      outputsFollow := by simp [settledPhase]
      enabledNotLatched := fun other => absurd rfl other
      ackLatched := fun _ => by cases drives : s.ackPulseActive <;> simp_all
      ackNotRequested := by cases drives : s.ackPulseActive <;> simp_all
      pulseSampled := by cases drives : s.ackPulseActive <;> simp_all }

/-- `ACK` keeps the part: it can only stop the drive (R124). -/
theorem PowerInv.ack (inv : PowerInv s) (taken : Taken s .ack t) : PowerInv t := by
  cases taken with
  | ack awake here =>
    have drove : (s.ackPulseActive && !s.ackExpired) = true → s.ackPulseActive = true := by simp +contextual
    exact { inv with
      outputsFollow := by simp [settledPhase]
      enabledNotLatched := fun _ other => absurd rfl other
      ackLatched := fun _ drives => inv.ackLatched (by simp [here]) (drove drives)
      ackNotRequested := fun drives => inv.ackNotRequested (drove drives)
      pulseSampled := fun drives => inv.pulseSampled (drove drives) }

/-- `OUT` keeps the part: it makes the outputs follow (R136). -/
theorem PowerInv.out (inv : PowerInv s) (taken : Taken s .out t) : PowerInv t := by
  cases taken with
  | out awake here =>
    exact { inv with
      greenIffEnabled := by cases s.powerRequested <;> cases s.faultLatched <;> simp [derivedIndicator]
      outputsFollow := fun _ => ⟨rfl, rfl⟩
      enabledNotLatched := fun _ _ => inv.requestedNotLatched
      ackLatched := fun _ => inv.ackLatched (by simp [here]) }

/-- Every operation keeps what R47, R120 and R193 say, I1, I3 and I9. -/
theorem PowerInv.taken (inv : PowerInv s) (taken : Taken s i t) : PowerInv t := by
  cases taken with
  | act awake here => exact inv.act (.act awake here)
  | flt awake here => exact inv.flt (.flt awake here)
  | ack awake here => exact inv.ack (.ack awake here)
  | out awake here => exact inv.out (.out awake here)
  | tck awake here | btn awake here | cli awake here | slp awake here =>
    exact { inv.leave (by simp [settledPhase, here]) _ with }
  | tickFatal | rst => constructor <;> simp [derivedIndicator]
  | tickDelivered | tickHeld | btnpin | fltpinSilent | fltpinDelivered | fltpinHeld => exact { inv with }

/-! ### The invariant -/

/-- Every operation keeps the invariant. -/
theorem blockInv_of_exec (inv : BlockInv s) (runs : exec i s = .next t) : BlockInv t := by
  obtain ⟨arbiter, filter, power⟩ := blockInv_iff.mp inv
  have taken := taken_of_exec runs
  exact blockInv_iff.mpr ⟨arbiter.taken taken, filter.taken taken, power.taken taken⟩

/-- Settles O25: the three parts, each kept by itself; a step runs an operation, or holds. -/
theorem everyStepKeepsInv : Obligations.EveryStepKeepsInv := by
  refine ⟨fun i s t => blockInv_of_exec, fun s t inv steps => ?_⟩
  rcases step_next_cases steps with ⟨i, rest, runs⟩ | ⟨-, rfl⟩
  · have rescheduled : BlockInv { s with trace := rest } := { inv with }
    exact blockInv_of_exec rescheduled runs
  · exact inv

/-- Settles O24, from the values of R49, which do not depend on the levels and on what waits. -/
theorem resetSatisfiesInv : Obligations.ResetSatisfiesInv := by
  intro btn flt waiting
  constructor <;> simp [State.resetIn, State.reset, derivedIndicator]

/-- Every reachable state has the invariant. -/
theorem blockInv_of_reachable (reached : Reachable s) : BlockInv s := by
  induction reached with
  | reset btn flt waiting => exact resetSatisfiesInv btn flt waiting
  | op _ runs inv => exact blockInv_of_exec inv runs
  | schedule waiting _ inv => exact { inv with }

/-- Settles O26: each of I1 to I9 is in the invariant, but for I2, which holds of every indicator. -/
theorem reachableStatesKeepR48 : Obligations.ReachableStatesKeepR48 := by
  intro s reached
  have inv := blockInv_of_reachable reached
  have notBoth : s.indicator.code ≠ 0b11#2 := by cases s.indicator <;> decide
  have redIsOff (red : s.indicator = .red) : s.powerEnabled = false := by
    simpa [red] using inv.greenIffEnabled
  have sleep (asleep : s.asleep = true) : s.phase = 0#3 ∧ s.intEnable = true := by
    have atTck := inv.asleepAtBoundary asleep
    have enabled := mt inv.maskedExactlyAtSlp.mp (by simp [atTck])
    exact ⟨atTck, by simpa using enabled⟩
  exact ⟨inv.requestedNotLatched, notBoth, ⟨inv.greenIffEnabled, redIsOff⟩, inv.pressAtAct,
    ⟨inv.maskedExactlyAtSlp, sleep⟩, inv.heldAtSlp, inv.asleepConsumed, inv.pressGateClosed, inv.outputsFollow⟩

/-- A step from a reachable state ends in one (log 1, log 2). -/
theorem reachable_of_step (reached : Reachable s) (steps : step s = .next t) : Reachable t := by
  rcases step_next_cases steps with ⟨i, rest, runs⟩ | ⟨-, rfl⟩
  · exact (reached.schedule rest).op runs
  · exact reached

/-- Settles O27, from the invariant and the closure of the reachable states under steps. -/
theorem reachablePowerOffWhileLatched : Obligations.ReachablePowerOffWhileLatched := by
  refine ⟨fun s reached => ?_, fun _ _ => reachable_of_step⟩
  have inv := blockInv_of_reachable reached
  refine ⟨fun no4 no5 latched => ?_, inv.ackLatched, fun drives => ⟨inv.ackNotRequested drives, ?_⟩⟩
  · simpa [outLevel, latched] using inv.enabledNotLatched no4 no5
  · simp [State.fltN, fltLevel, drives]

/-! ### Which operations run -/

/-- The operation hardwired to a phase has that phase as its code (R44, R86). -/
theorem phaseCode?_microInstr (p : PhaseCode) : (microInstr p).phaseCode? = some p := by
  revert p; decide

/-- A phase code names one operation (R86). -/
theorem eq_microInstr_of_phaseCode? {p : PhaseCode} (has : i.phaseCode? = some p) : i = microInstr p := by
  cases i with
  | tck | btn | act | flt | ack | out | cli | slp => cases has; rfl
  | tick | rst | btnpin | fltpin => cases has

/-- The sequencer's operations are those with a phase code (R17, R86). -/
theorem sequencer_iff : i.agent = .sequencer ↔ ∃ code, i.phaseCode? = some code := by
  rw [← Option.ne_none_iff_exists', ne_eq, phaseCode?_eq_none_iff, not_not]

/-- A micro-operation answers a next state exactly while awake and at its phase (R46). -/
theorem exec_next_iff_of_phaseCode? {code : PhaseCode} (has : i.phaseCode? = some code) :
    (∃ t, exec i s = .next t) ↔ s.asleep = false ∧ s.phase = code := by
  simp [exec_next_iff_enabled, enabled, has]

/-- Awake, the one micro-operation that runs is the one hardwired to `Phase` (R46). -/
theorem sequencer_runs_iff (awake : s.asleep = false) :
    (i.agent = .sequencer ∧ ∃ t, exec i s = .next t) ↔ i = microInstr s.phase := by
  constructor
  · rintro ⟨mine, runs⟩
    obtain ⟨code, has⟩ := sequencer_iff.mp mine
    obtain ⟨-, rfl⟩ := (exec_next_iff_of_phaseCode? has).mp runs
    exact eq_microInstr_of_phaseCode? has
  · rintro rfl
    have has := phaseCode?_microInstr s.phase
    exact ⟨sequencer_iff.mpr ⟨_, has⟩, (exec_next_iff_of_phaseCode? has).mpr ⟨awake, rfl⟩⟩

/-- Settles O18: (a) and (b) are where an operation is enabled, (c) the one hardwired to `Phase`. -/
theorem exactlyTheEnabledOpsRun : Obligations.ExactlyTheEnabledOpsRun := by
  intro s
  refine ⟨fun i other => exec_next_of_phaseCode?_none (phaseCode?_eq_none_iff.mpr other) s,
    fun i code has => exec_next_iff_of_phaseCode? has, fun awake => ?_, fun asleep i mine => ?_⟩
  · simp only [sequencer_runs_iff awake, existsUnique_eq]
  · obtain ⟨code, has⟩ := sequencer_iff.mp mine
    obtain ⟨effect, runs⟩ := exec_eq_microOp has
    exact ⟨_, (runs s).trans (microOp_asleep asleep)⟩

/-- Settles O21: the step of an awake block is the operation hardwired to `Phase`, which is enabled. -/
theorem stepRunsHardwiredSequence : Obligations.StepRunsHardwiredSequence := by
  intro s empty
  refine ⟨fun awake => ?_, step_idle empty⟩
  have has := phaseCode?_microInstr s.phase
  have steps := step_sequencer empty awake
  obtain ⟨t, runs⟩ := (exec_next_iff_of_phaseCode? has).mpr ⟨awake, rfl⟩
  exact ⟨microInstr s.phase, t, has, steps, steps.trans runs⟩

/-! ### What an operation writes -/

/-- A firing that finds the last one held resets the block (R101, R180). -/
theorem isReset_of_late (masked : s.intEnable = false) (late : s.tickIrq = true) : isReset .tick s = true := by
  simp [isReset, masked, late]

/-- Settles O28, in each of the ways an operation can go: the fields it leaves alone do not differ, and for those it
writes the matrix of R51 lists it. -/
theorem onlyListedOpsWrite : Obligations.OnlyListedOpsWrite := by
  intro i s t runs quiet
  cases taken_of_exec runs with
  | tickFatal masked late => exact nomatch quiet.symm.trans (isReset_of_late masked late)
  | rst => cases quiet
  | tck | btn | act | flt | ack | out | cli | slp => simp [Instr.agent]
  | tickDelivered | tickHeld | btnpin | fltpinSilent | fltpinDelivered | fltpinHeld => simp

/-- A micro-operation ends at the phase after its own (R45). -/
theorem phase_of_sequencer (taken : Taken s i t) (mine : i.agent = .sequencer) : t.phase = s.phase + 1#3 := by
  cases taken with
  | tck _ here | btn _ here | act _ here | flt _ here | ack _ here | out _ here | cli _ here | slp _ here => simp [here]
  | tickDelivered | tickHeld | tickFatal | rst | btnpin | fltpinSilent | fltpinDelivered | fltpinHeld => cases mine

/-- An operation of another agent that does not reset leaves the phase (R45). -/
theorem phase_of_other_agent (taken : Taken s i t) (other : i.agent ≠ .sequencer) (quiet : isReset i s = false) :
    t.phase = s.phase := by
  cases taken with
  | tck | btn | act | flt | ack | out | cli | slp => exact absurd rfl other
  | tickFatal masked late => exact nomatch quiet.symm.trans (isReset_of_late masked late)
  | rst => cases quiet
  | tickDelivered | tickHeld | btnpin | fltpinSilent | fltpinDelivered | fltpinHeld => rfl

/-- An operation that resets ends in the reset state (R148, R180). -/
theorem eq_resetBlock_of_isReset (taken : Taken s i t) (resets : isReset i s = true) : t = resetBlock s := by
  cases taken with
  | tickFatal | rst => rfl
  | tickDelivered enabled => simp [isReset, enabled] at resets
  | tickHeld masked armed => simp [isReset, armed] at resets
  | tck | btn | act | flt | ack | out | cli | slp | btnpin | fltpinSilent | fltpinDelivered | fltpinHeld =>
    simp [isReset] at resets

/-- Settles O30: the addition of `BitVec 3` is the addition modulo 8. -/
theorem phaseAdvancesModEight : Obligations.PhaseAdvancesModEight := by
  intro i s t runs
  have taken := taken_of_exec runs
  refine ⟨fun mine => ?_, phase_of_other_agent taken, fun resets => ?_⟩
  · rw [phase_of_sequencer taken mine]
    exact BitVec.toNat_add s.phase 1#3
  · rw [eq_resetBlock_of_isReset taken resets, resetBlock_phase]

/-- Settles O32: `SLP` answers the sleep-enable condition, four ways wake the block, the others leave it awake. -/
theorem sleepEnteredOnlyBySlp : Obligations.SleepEnteredOnlyBySlp := by
  intro i s t awake runs
  cases taken_of_exec runs with
  | slp => simp [and_assoc]
  | tickDelivered | tickFatal | rst | fltpinDelivered => simp
  | tck | btn | act | flt | ack | out | cli | tickHeld | btnpin | fltpinSilent | fltpinHeld => simp [awake]

/-! ### What a run keeps -/

/-- The count along a run is zero when it is for the first operation and along the rest. -/
theorem countAlong_cons_eq_zero {p : Instr → State → Bool} {is : List Instr} (first : exec i s = .next t) :
    countAlong p (i :: is) s = 0 ↔ p i s = false ∧ countAlong p is t = 0 := by
  simp [countAlong, first]

/-- Without an applied press and without a reset a latched fault stays (R30): `ACT` clears it only with a press. -/
theorem faultLatched_of_exec (latched : s.faultLatched = true) (unpressed : isPressApplied i s = false)
    (quiet : isReset i s = false) (runs : exec i s = .next t) : t.faultLatched = true := by
  cases taken_of_exec runs with
  | act =>
    have none : s.pressEvent = false := by simpa [isPressApplied] using unpressed
    simp [latched, none]
  | flt => simp [latched]
  | tickFatal masked late => exact nomatch quiet.symm.trans (isReset_of_late masked late)
  | rst => cases quiet
  | tck | btn | ack | out | cli | slp | tickDelivered | tickHeld | btnpin | fltpinSilent | fltpinDelivered | fltpinHeld =>
    exact latched

/-- Settles O35, by induction on the run. -/
theorem faultMemoryPersists : Obligations.FaultMemoryPersists := by
  intro ops
  induction ops with
  | nil =>
    intro s t latched _ _ run
    injection run with same
    exact same ▸ latched
  | cons i is ih =>
    intro s t latched unpressed quiet run
    obtain ⟨u, first, rest⟩ := runOps_cons_next.mp run
    obtain ⟨unpressedNow, unpressedLater⟩ := (countAlong_cons_eq_zero first).mp unpressed
    obtain ⟨quietNow, quietLater⟩ := (countAlong_cons_eq_zero first).mp quiet
    exact ih u t (faultLatched_of_exec latched unpressedNow quietNow first) unpressedLater quietLater rest

/-- Whatever is not `TCK` and does not reset keeps the memory of a firing, and `TICK` makes it (R22, R72). -/
theorem remembered_of_exec (other : i ≠ .tck) (quiet : isReset i s = false) (runs : exec i s = .next t)
    (fired : i = .tick ∨ s.tickPending = true ∨ s.tickIrq = true) : t.tickPending = true ∨ t.tickIrq = true := by
  cases taken_of_exec runs with
  | tck => exact absurd rfl other
  | slp => simpa using fired
  | tickDelivered => exact .inl rfl
  | tickHeld => exact .inr rfl
  | tickFatal masked late => exact nomatch quiet.symm.trans (isReset_of_late masked late)
  | rst => cases quiet
  | btn | act | flt | ack | out | cli | btnpin | fltpinSilent | fltpinDelivered | fltpinHeld => simpa using fired

/-- Settles O44, by induction on the run: the first operation makes or keeps the memory, or a later one makes it. -/
theorem firingRememberedUntilConsumed : Obligations.FiringRememberedUntilConsumed := by
  intro ops
  induction ops with
  | nil =>
    intro s t _ _ run fired
    injection run with same
    simpa [firings, same] using fired
  | cons i is ih =>
    intro s t unconsumed quiet run fired
    obtain ⟨u, first, rest⟩ := runOps_cons_next.mp run
    obtain ⟨quietNow, quietLater⟩ := (countAlong_cons_eq_zero first).mp quiet
    obtain ⟨other, unconsumedLater⟩ := not_or.mp (mt List.mem_cons.mpr unconsumed)
    have remembered := remembered_of_exec (Ne.symm other) quietNow first
    refine ih u t unconsumedLater quietLater rest ?_
    by_cases now : i = .tick ∨ s.tickPending = true ∨ s.tickIrq = true
    · exact .inr (remembered now)
    · obtain ⟨noTick, forgotten⟩ := not_or.mp now
      have later : firings (i :: is) = firings is := List.count_cons_of_ne noTick
      rw [later] at fired
      exact .inl (fired.resolve_right forgotten)

/-! ### Changes that commute with every operation -/

/-- Moving all tick values leaves the age of the last activity (R21). -/
@[simp] theorem gateExpired_shiftTicks (k : TickVal) (s : State) : (shiftTicks k s).gateExpired = s.gateExpired :=
  congrArg (Config.gateTicks.ule ·) (add_sub_add_right_eq_sub s.tick s.lastActivity k)

/-- Moving all tick values leaves the age of the drive (R21). -/
@[simp] theorem ackExpired_shiftTicks (k : TickVal) (s : State) : (shiftTicks k s).ackExpired = s.ackExpired :=
  congrArg (Config.ackTicks.ule ·) (add_sub_add_right_eq_sub s.tick s.ackPulseStart k)

/-- Every way an operation can go, but for a reset, goes the same way with all tick values moved (R21). -/
theorem taken_shiftTicks (k : TickVal) (quiet : isReset i s = false) (taken : Taken s i t) :
    Taken (shiftTicks k s) i (shiftTicks k t) := by
  cases taken with
  | tck awake here => exact .tck awake here
  | btn awake here =>
    have taken := Taken.btn (s := shiftTicks k s) awake here
    rw [gateExpired_shiftTicks] at taken
    cases pressed : s.btnPin <;> simpa [shiftTicks, pressed] using taken
  | act awake here => exact .act awake here
  | flt awake here =>
    have taken := Taken.flt (s := shiftTicks k s) awake here
    have active : (shiftTicks k s).faultActive = s.faultActive := rfl
    rw [active] at taken
    cases latches : s.faultActive && !s.faultLatched <;> simpa [shiftTicks, latches] using taken
  | ack awake here =>
    have taken := Taken.ack (s := shiftTicks k s) awake here
    rwa [ackExpired_shiftTicks] at taken
  | out awake here => exact .out awake here
  | cli awake here => exact .cli awake here
  | slp awake here =>
    have taken := Taken.slp (s := shiftTicks k s) awake here
    cases held : s.tickIrq <;> simpa [shiftTicks, held, add_right_comm] using taken
  | tickDelivered enabled =>
    have taken := Taken.tickDelivered (s := shiftTicks k s) enabled
    simpa [shiftTicks, add_right_comm] using taken
  | tickHeld masked armed => exact .tickHeld masked armed
  | tickFatal masked late => exact nomatch quiet.symm.trans (isReset_of_late masked late)
  | rst => cases quiet
  | btnpin v => exact .btnpin v
  | fltpinSilent v same => exact .fltpinSilent v same
  | fltpinDelivered v moved idle enabled => exact .fltpinDelivered v moved idle enabled
  | fltpinHeld v moved idle masked => exact .fltpinHeld v moved idle masked

/-- Settles O51: a taken operation is taken with the tick values moved, and a refused one is refused. -/
theorem onlyTickDifferencesMatter : Obligations.OnlyTickDifferencesMatter := by
  intro k i s quiet
  cases answer : exec i s with
  | next t => exact exec_of_taken (taken_shiftTicks k quiet (taken_of_exec answer))
  | fault r => exact absurd answer no_fault
  | refused r => exact exec_refused_congr (s := s) rfl rfl answer

/-- Every way an operation can go goes the same way with other values in the sample registers, and its next state differs at
most in them (R23, R29). -/
theorem taken_withSamples (raw fls : Bit) (taken : Taken s i t) :
    ∃ u, Taken (withSamples raw fls s) i u ∧ ∀ raw' fls', withSamples raw' fls' u = withSamples raw' fls' t := by
  cases taken with
  | tck awake here => exact ⟨_, .tck awake here, fun _ _ => rfl⟩
  | btn awake here => exact ⟨_, .btn awake here, fun _ _ => rfl⟩
  | act awake here => exact ⟨_, .act awake here, fun _ _ => rfl⟩
  | flt awake here => exact ⟨_, .flt awake here, fun _ _ => rfl⟩
  | ack awake here => exact ⟨_, .ack awake here, fun _ _ => rfl⟩
  | out awake here => exact ⟨_, .out awake here, fun _ _ => rfl⟩
  | cli awake here => exact ⟨_, .cli awake here, fun _ _ => rfl⟩
  | slp awake here => exact ⟨_, .slp awake here, fun _ _ => rfl⟩
  | tickDelivered enabled => exact ⟨_, .tickDelivered enabled, fun _ _ => rfl⟩
  | tickHeld masked armed => exact ⟨_, .tickHeld masked armed, fun _ _ => rfl⟩
  | tickFatal masked late => exact ⟨_, .tickFatal masked late, fun _ _ => rfl⟩
  | rst => exact ⟨_, .rst, fun _ _ => rfl⟩
  | btnpin v => exact ⟨_, .btnpin v, fun _ _ => rfl⟩
  | fltpinSilent v same => exact ⟨_, .fltpinSilent v same, fun _ _ => rfl⟩
  | fltpinDelivered v moved idle enabled => exact ⟨_, .fltpinDelivered v moved idle enabled, fun _ _ => rfl⟩
  | fltpinHeld v moved idle masked => exact ⟨_, .fltpinHeld v moved idle masked, fun _ _ => rfl⟩

/-- Settles O52: a taken operation is taken with other samples, and a refused one is refused. -/
theorem sampleRegistersUnobservable : Obligations.SampleRegistersUnobservable := by
  intro raw fls raw' fls' i s
  cases answer : exec i s with
  | next t =>
    obtain ⟨u, taken, same⟩ := taken_withSamples raw' fls' (taken_of_exec answer)
    rw [exec_of_taken taken, mapNext, mapNext, same]
  | fault r => exact absurd answer no_fault
  | refused r => rw [exec_refused_congr (s := s) (u := withSamples raw' fls' s) rfl rfl answer]

/-- States that differ at most in stale stamps take an operation the same way and stay so: an open gate stays open
whatever the age, and a closed one has the stamp they share (R26); the age of the drive is read only while they share its
start (R32). -/
theorem taken_staleStamps {s' : State} (similar : sameButStaleStamps s s') (taken : Taken s i t) :
    ∃ t', Taken s' i t' ∧ sameButStaleStamps t t' := by
  obtain ⟨same, activity, start⟩ := similar
  generalize s'.lastActivity = la at same activity
  generalize s'.ackPulseStart = aps at same start
  subst same
  cases taken with
  | tck awake here => exact ⟨_, .tck awake here, rfl, activity, start⟩
  | btn awake here =>
    refine ⟨_, .btn awake here, ?_, ?_, start⟩
    · cases gate : s.debounceGate with
      | true => simp
      | false => rw [activity gate]; rfl
    · cases pressed : s.btnPin <;> simp_all
  | act awake here => exact ⟨_, .act awake here, rfl, activity, start⟩
  | flt awake here =>
    refine ⟨_, .flt awake here, rfl, activity, fun drives => ?_⟩
    change (if (s.faultActive && !s.faultLatched) = true then s.tick else aps) = _
    cases latches : s.faultActive && !s.faultLatched <;> simp_all
  | ack awake here =>
    refine ⟨_, .ack awake here, ?_, activity, fun drives => start (Bool.and_eq_true_iff.mp drives).1⟩
    cases drives : s.ackPulseActive with
    | true => rw [start drives]; rfl
    | false => simp
  | out awake here => exact ⟨_, .out awake here, rfl, activity, start⟩
  | cli awake here => exact ⟨_, .cli awake here, rfl, activity, start⟩
  | slp awake here => exact ⟨_, .slp awake here, rfl, activity, start⟩
  | tickDelivered enabled => exact ⟨_, .tickDelivered enabled, rfl, activity, start⟩
  | tickHeld masked armed => exact ⟨_, .tickHeld masked armed, rfl, activity, start⟩
  | tickFatal masked late => exact ⟨_, .tickFatal masked late, rfl, fun _ => rfl, fun _ => rfl⟩
  | rst => exact ⟨_, .rst, rfl, fun _ => rfl, fun _ => rfl⟩
  | btnpin v => exact ⟨_, .btnpin v, rfl, activity, start⟩
  | fltpinSilent v same => exact ⟨_, .fltpinSilent v same, rfl, activity, start⟩
  | fltpinDelivered v moved idle enabled => exact ⟨_, .fltpinDelivered v moved idle enabled, rfl, activity, start⟩
  | fltpinHeld v moved idle masked => exact ⟨_, .fltpinHeld v moved idle masked, rfl, activity, start⟩

/-- Settles O53: the answer of one state gives that of the other. -/
theorem staleStampsUnobservable : Obligations.StaleStampsUnobservable := by
  intro i s s' t similar runs
  obtain ⟨t', taken, still⟩ := taken_staleStamps similar (taken_of_exec runs)
  exact ⟨t', exec_of_taken taken, still⟩

/-! ### The written form -/

/-- The number of a bit reads back as the bit. -/
@[simp] theorem bitNat_beq_one (b : Bit) : (bitNat b == 1) = b := by cases b <;> rfl

/-- The number of a bit fits one bit. -/
theorem bitNat_le_one (b : Bit) : bitNat b ≤ 1 := by cases b <;> decide

/-- A number of one bit is the number of the bit it reads as. -/
theorem bitNat_of_le_one {n : Nat} (fits : n ≤ 1) : bitNat (n == 1) = n := by
  interval_cases n <;> rfl

/-- An indicator's code reads back as the indicator (R87). -/
@[simp] theorem ofCode?_code (ind : Indicator) : Indicator.ofCode? ind.code = some ind := by cases ind <;> rfl

/-- The code that reads as an indicator is its code (R87). -/
theorem code_of_ofCode? {c : BitVec 2} {ind : Indicator} (read : Indicator.ofCode? c = some ind) : ind.code = c := by
  have readBack : ∀ c : BitVec 2, ∀ ind ∈ Indicator.ofCode? c, ind.code = c := by decide
  exact readBack c ind read

/-- The written form of a state is well formed: each number is that of a field of its width (R20, R34). -/
theorem wfTuple_tuple (s : State) : wfTuple s.tuple = true := by
  have legal : s.indicator.code.toNat ≠ 3 := by cases s.indicator <;> decide
  simp only [wfTuple, fieldWidths, State.tuple, fitWidths, Config.tickBits, BitVec.isLt]
  simp [bitNat_le_one, legal]

/-- The written form of a state reads back as the state, with nothing waiting. -/
theorem ofTuple?_tuple (s : State) : State.ofTuple? s.tuple s.btnPin s.fltExt = some { s with trace := [] } := by
  unfold State.ofTuple?
  rw [if_pos (wfTuple_tuple s)]
  change (Indicator.ofCode? (BitVec.ofNat 2 s.indicator.code.toNat)).map _ = _
  simp

/-- Numbers that read as a state are the written form of that state, read with its levels. -/
theorem tuple_of_ofTuple? {vs : List Nat} {btn flt : Level} (read : State.ofTuple? vs btn flt = some s) :
    s.tuple = vs ∧ s.btnPin = btn ∧ s.fltExt = flt := by
  unfold State.ofTuple? at read
  split at read
  next wf =>
    split at read
    next t tp rb db g la pe pr fl fa ak as en ind ph ie ti pi z =>
      obtain ⟨i, coded, rfl⟩ := Option.map_eq_some_iff.mp read
      have code := code_of_ofCode? coded
      simp [wfTuple, fieldWidths, fitWidths, Config.tickBits] at wf
      simp [State.tuple, code, bitNat_of_le_one, Nat.mod_eq_of_lt, wf]
    next => cases read
  next => cases read

/-- Settles O58: writing and then reading, and reading and then writing. -/
theorem tupleRoundTrip : Obligations.TupleRoundTrip :=
  ⟨fun s => ⟨wfTuple_tuple s, ofTuple?_tuple s⟩, fun _ _ _ _ => tuple_of_ofTuple?⟩

/-! ### The output lines -/

/-- Settles O55, indicator by indicator. -/
theorem outputLinesFollowFields : Obligations.OutputLinesFollowFields := by
  intro s
  refine ⟨?_, rfl, rfl, ?_, ?_, ?_⟩
  · simp [outLevel]
  · simp only [outLevel]
    cases s.indicator <;> decide
  · simp only [outLevel]
    cases s.indicator <;> decide
  · cases drives : s.ackPulseActive <;> simp [State.lineMode, drives]

end Sys2Proof.Proofs

/-! SUPPORT. The statements of 20_memory.md: the level of the input lines (R62, R63), and firings along a run (R71, R72). -/

namespace Sys2Proof.Proofs

open Sys2Proof.Machine Sys2Proof.Laws

variable {s t : State} {i : Instr}

/-! ### The input lines -/

/-- Settles O56: a high line needs both drivers released, so a driven line is not high. -/
theorem faultLineIsWiredAnd : Obligations.FaultLineIsWiredAnd := by
  intro s
  have high : pinRead .fltN s = true ↔ s.fltExt = true ∧ s.ackPulseActive = false := fltN_eq_true
  exact ⟨rfl, high, fun drives => by simpa [drives] using high⟩

/-! ### Firings along a run -/

/-- With a firing held, one more than `Tick` has been taken (R72). -/
theorem firedTick_of_held (held : s.tickIrq = true) : firedTick s = s.tick + 1#8 := by simp [firedTick, held]

/-- With no firing held, `Tick` counts all that were taken (R72). -/
theorem firedTick_of_unheld (unheld : s.tickIrq = false) : firedTick s = s.tick := by simp [firedTick, unheld]

/-- The firings of a run are those of its first operation and of the rest. -/
theorem firings_cons (i : Instr) (is : List Instr) : firings (i :: is) = firings [i] + firings is :=
  List.count_append (l₁ := [i])

/-- A firing that comes in time is delivered into `Tick` or held, `SLP` moves a held one into `Tick`, and no other operation
but `RST` touches either (R71, R101, R142). -/
theorem firedTick_of_exec (inTime : isLateTick i s = false) (other : i ≠ .rst) (runs : exec i s = .next t) :
    firedTick t = firedTick s + BitVec.ofNat 8 (firings [i]) := by
  have armed (fires : i = .tick) : s.tickIrq = false := by simpa [isLateTick, fires] using inTime
  cases taken_of_exec runs with
  | slp =>
    cases held : s.tickIrq with
    | true => simp [firedTick_of_held held, firedTick_of_unheld, firings]
    | false => simp [firedTick_of_unheld held, firedTick_of_unheld, firings]
  | tickDelivered => simp [firedTick_of_unheld (armed rfl), firedTick_of_unheld, firings]
  | tickHeld => simp [firedTick_of_unheld (armed rfl), firedTick_of_held, firings]
  | tickFatal masked late => exact nomatch late.symm.trans (armed rfl)
  | rst => exact absurd rfl other
  | tck | btn | act | flt | ack | out | cli | btnpin | fltpinSilent | fltpinDelivered | fltpinHeld =>
    exact (add_zero _).symm

/-- Settles O43, by induction on the run: each operation adds its own firing. -/
theorem noFiringIsLost : Obligations.NoFiringIsLost := by
  intro ops
  induction ops with
  | nil =>
    intro s t _ _ run
    injection run with same
    exact same ▸ (add_zero _).symm
  | cons i is ih =>
    intro s t env1 unreset run
    obtain ⟨u, first, rest⟩ := runOps_cons_next.mp run
    obtain ⟨inTime, env1Later⟩ := (countAlong_cons_eq_zero first).mp env1
    obtain ⟨other, unresetLater⟩ := not_or.mp (mt List.mem_cons.mpr unreset)
    calc firedTick t
      _ = firedTick u + BitVec.ofNat 8 (firings is) := ih u t env1Later unresetLater rest
      _ = firedTick s + BitVec.ofNat 8 (firings [i]) + BitVec.ofNat 8 (firings is) := by
        rw [firedTick_of_exec inTime (Ne.symm other) first]
      _ = firedTick s + BitVec.ofNat 8 (firings (i :: is)) := by rw [firings_cons i is, BitVec.ofNat_add, add_assoc]

end Sys2Proof.Proofs

/-! SUPPORT. The statements of 30_encoding.md: operations and their words (R80 to R85, R89), the refused steps (R90), the
trace text (R92) and the pseudo-operations (R93). -/

namespace Sys2Proof.Proofs

open Sys2Proof.Machine Sys2Proof.Laws

variable {s t u : State} {i : Instr} {is : List Instr} {w : OpWord} {ws : List OpWord}

/-! ### A word is determined by its operation -/

/-- A word is its class followed by its selector (R80). -/
theorem wordClass_append_wordSelector (w : OpWord) : wordClass w ++ wordSelector w = w :=
  (BitVec.extractLsb'_append_extractLsb'_eq_extractLsb' (by decide)).trans BitVec.extractLsb'_eq_self

/-- A word of class 1 is told by its event number (R83). -/
theorem wordE_wordSelector (cls : wordClass w = 0x1#4) : wordE (wordSelector w) = w := by
  rw [wordE, ← cls, wordClass_append_wordSelector]

/-- A word of class 0 with `W[3] = 0` is told by its phase code (R82), by evaluation over the 256 words. -/
theorem wordC_wordPhase (cls : wordClass w = 0x0#4) (zero : w.getLsbD 3 = false) : wordC (wordPhase w) = w := by
  revert w; decide

/-- A word of class 2 with `W[3:2] = 00` is told by its pin and its level (R84), by evaluation over the 256 words. -/
theorem wordP_wordPin_wordLevel (cls : wordClass w = 0x2#4) (zeros : w.extractLsb' 2 2 = 0#2) :
    wordP (wordPin w) (wordLevel w) = w := by
  revert w; decide

/-- The word of the operation hardwired to a phase (R82, R86). -/
theorem encode_microInstr (p : PhaseCode) : encode (microInstr p) = wordC p := by
  revert p; decide

/-- A word of class 0 that names an operation is that operation's (R82). -/
theorem encode_of_decodeMicroOp (cls : wordClass w = 0x0#4) (names : decodeMicroOp w = .ok i) : encode i = w := by
  unfold decodeMicroOp at names
  split at names
  next => cases names
  next zero =>
    cases names
    rw [encode_microInstr, wordC_wordPhase cls (by simpa using zero)]

/-- A word of class 1 that names an operation is that operation's (R83). -/
theorem encode_of_decodeEvent (cls : wordClass w = 0x1#4) (names : decodeEvent w = .ok i) : encode i = w := by
  have word := wordE_wordSelector cls
  unfold decodeEvent at names
  split at names
  next sel => cases names; rwa [sel] at word
  next =>
    split at names
    next sel => cases names; rwa [sel] at word
    next => cases names

/-- A word of class 2 that names an operation is that operation's (R84). -/
theorem encode_of_decodePinChange (cls : wordClass w = 0x2#4) (names : decodePinChange w = .ok i) : encode i = w := by
  unfold decodePinChange at names
  split at names
  next => cases names
  next zeros =>
    have word := wordP_wordPin_wordLevel cls (not_not.mp zeros)
    split at names
    next pin => cases names; rwa [pin] at word
    next pin => cases names; rwa [eq_false_of_ne_true pin] at word

/-- The word that decodes to an operation is the one the encoder writes (R80). -/
theorem encode_of_decode (names : decode w = .ok i) : encode i = w := by
  unfold decode at names
  split at names
  next cls => exact encode_of_decodeMicroOp cls names
  next =>
    split at names
    next cls => exact encode_of_decodeEvent cls names
    next =>
      split at names
      next cls => exact encode_of_decodePinChange cls names
      next => cases names

/-- Decoding and encoding determine each other (R80). -/
theorem decode_eq_ok_iff : decode w = .ok i ↔ encode i = w :=
  ⟨encode_of_decode, fun word => word ▸ decode_encode i⟩

/-! ### A trace is determined by its operations -/

/-- A trace decodes when its first word and the rest do (R90). -/
theorem decodeTrace_cons_eq_ok_iff :
    decodeTrace (w :: ws) = .ok is ↔ ∃ i js, decode w = .ok i ∧ decodeTrace ws = .ok js ∧ i :: js = is := by
  rw [decodeTrace]
  cases decode w <;> cases decodeTrace ws <;> simp

/-- Decoding and encoding whole traces determine each other (R80, R90). -/
theorem decodeTrace_eq_ok_iff : decodeTrace ws = .ok is ↔ encodeTrace is = ws := by
  induction ws generalizing is with
  | nil => simp [decodeTrace, encodeTrace, eq_comm]
  | cons w ws ih =>
    simp only [decodeTrace_cons_eq_ok_iff, decode_eq_ok_iff, ih]
    cases is <;> simp [encodeTrace]

/-- Settles O2, format by format for a word and by induction for a trace. -/
theorem encodingIsExact : Obligations.EncodingIsExact :=
  ⟨decode_encode, fun _ _ => encode_of_decode,
    fun _ => decodeTrace_eq_ok_iff.mpr rfl, fun _ _ => decodeTrace_eq_ok_iff.mp⟩

/-- Settles O1: the words of operations are the encoder's, the others are computed. -/
theorem decodeKnownWords : Obligations.DecodeKnownWords :=
  ⟨decode_encode .tck, decode_encode .flt, decode_encode .slp, decode_encode .tick, decode_encode .rst,
    decode_encode (.btnpin false), decode_encode (.fltpin true), rfl, rfl, rfl, rfl⟩

/-! ### The opcode map -/

/-- Whether a word decodes, as a test that can be evaluated. -/
theorem isOk_decode_iff_exists : (decode w).isOk = true ↔ ∃ i, decode w = .ok i := by
  cases decode w <;> simp [Except.isOk, Except.toBool]

/-- The decoder accepts the fourteen words of R89, by evaluation over the 256 words. -/
theorem isOk_decode_iff_listed : (decode w).isOk = true ↔
    w.toNat ≤ 0x07 ∨ w.toNat = 0x10 ∨ w.toNat = 0x1F ∨ (0x20 ≤ w.toNat ∧ w.toNat ≤ 0x23) := by
  revert w; decide

/-- The decoder accepts the words that the match/mask rows cover (R89, R90), by evaluation over the 256 words. -/
theorem isOk_decode_eq_definedWord : (decode w).isOk = definedWord w := by
  revert w; decide

/-- The one row that covers an operation's word is the operation's own (R89). -/
theorem rowOfEncoding (i : Instr) : RowOfEncoding.Statement i := by
  cases i with
  | tck => exact RowOfEncoding.tck
  | btn => exact RowOfEncoding.btn
  | act => exact RowOfEncoding.act
  | flt => exact RowOfEncoding.flt
  | ack => exact RowOfEncoding.ack
  | out => exact RowOfEncoding.out
  | cli => exact RowOfEncoding.cli
  | slp => exact RowOfEncoding.slp
  | tick => exact RowOfEncoding.tick
  | rst => exact RowOfEncoding.rst
  | btnpin v => exact RowOfEncoding.btnpin v
  | fltpin v => exact RowOfEncoding.fltpin v

/-- One row covers an operation's word (R89). -/
theorem length_rows_encode (i : Instr) : (opRows.filter (fun r => r.covers (encode i))).length = 1 := by
  simpa using congrArg List.length (rowOfEncoding i)

/-- No row covers a reserved word (R90). -/
theorem rows_eq_nil_of_reserved (reserved : definedWord w = false) : opRows.filter (fun r => r.covers w) = [] := by
  simpa [definedWord] using reserved

/-- At most one row covers a word (R89): a defined word is the word of an operation. -/
theorem length_rows_le_one (w : OpWord) : (opRows.filter (fun r => r.covers w)).length ≤ 1 := by
  cases defined : definedWord w with
  | false => simp [rows_eq_nil_of_reserved defined]
  | true =>
    rw [← isOk_decode_eq_definedWord, isOk_decode_iff_exists] at defined
    obtain ⟨i, names⟩ := defined
    rw [← encode_of_decode names]
    exact (length_rows_encode i).le

/-- Settles O3: the words that decode are the listed ones and the covered ones. -/
theorem definedWordsExactly : Obligations.DefinedWordsExactly := by
  intro w
  rw [← isOk_decode_iff_exists]
  exact ⟨isOk_decode_iff_listed, by rw [isOk_decode_eq_definedWord], length_rows_le_one w⟩

/-! ### The refused steps -/

/-- Settles O19: a micro-operation is the enabledness check of its code (R46, R90). -/
theorem untakeableOpsRefusedByName : Obligations.UntakeableOpsRefusedByName := by
  intro i code s has
  obtain ⟨effect, runs⟩ := exec_eq_microOp has
  rw [runs]
  exact ⟨microOp_asleep, microOp_outOfPhase⟩

/-! ### The trace text -/

/-- A text without separators is one piece. -/
theorem splitText_of_free {p : Char → Bool} {xs : Text} (free : ∀ x ∈ xs, p x = false) : splitText p xs = [xs] := by
  induction xs with
  | nil => rfl
  | cons x xs ih =>
    obtain ⟨now, later⟩ := List.forall_mem_cons.mp free
    simp [splitText, now, ih later]

/-- A text up to its first separator is its first piece. -/
theorem splitText_append_cons {p : Char → Bool} {xs : Text} {c : Char} (free : ∀ x ∈ xs, p x = false)
    (sep : p c = true) (ys : Text) : splitText p (xs ++ c :: ys) = xs :: splitText p ys := by
  induction xs with
  | nil => simp [splitText, sep]
  | cons x xs ih =>
    obtain ⟨now, later⟩ := List.forall_mem_cons.mp free
    simp [splitText, now, ih later]

/-- A line without a dash has no comment (R92). -/
theorem stripComment_of_free {xs : Text} (free : ∀ x ∈ xs, x ≠ '-') : stripComment xs = xs := by
  induction xs with
  | nil => rfl
  | cons x xs ih =>
    obtain ⟨now, later⟩ := List.forall_mem_cons.mp free
    simp [stripComment, now, ih later]

/-- The text of an operation holds no character that ends a line or an operation or begins a comment (R92). -/
theorem opText_free (i : Instr) : ∀ c ∈ opText i, (c == '\n') = false ∧ (c == ';') = false ∧ c ≠ '-' := by
  cases i with
  | tck | btn | act | flt | ack | out | cli | slp | tick | rst => simp [opText, Instr.mnemonic, operandText]
  | btnpin v | fltpin v => cases v <;> simp [opText, Instr.mnemonic, operandText]

/-- The text of an operation reads as the operation (R92). -/
theorem opsOfWords?_opText (i : Instr) : opsOfWords? (wordsOf (opText i)) = some [i] := by
  cases i with
  | tck | btn | act | flt | ack | out | cli | slp | tick | rst => decide
  | btnpin v | fltpin v => revert v; decide

/-- The operation texts of a trace written one per line: its operations', and the empty one after the last line. -/
theorem opTexts_traceText (is : List Instr) : opTexts (traceText is) = is.map opText ++ [[]] := by
  induction is with
  | nil => rfl
  | cons i is ih =>
    have free := opText_free i
    have line : splitText (· == '\n') (traceText (i :: is)) = opText i :: splitText (· == '\n') (traceText is) := by
      simpa [traceText] using splitText_append_cons (fun c mem => (free c mem).1) (by decide) (traceText is)
    have uncommented := stripComment_of_free fun c mem => (free c mem).2.2
    have one := splitText_of_free fun c mem => (free c mem).2.1
    rw [opTexts, line, List.flatMap_cons, uncommented, one]
    exact congrArg (opText i :: ·) ih

/-- Settles O4, by induction on the operations: each text reads as its operation, the empty one as nothing. -/
theorem traceTextRoundTrip : Obligations.TraceTextRoundTrip := by
  intro is
  rw [parseTrace?, opTexts_traceText]
  induction is with
  | nil => rfl
  | cons i is ih => simp [opsOfTexts?, opsOfWords?_opText, ih]

/-! ### The pseudo-operations -/

/-- A run goes on from the state in which its first operation ends. -/
theorem runOps_cons_of_taken (first : Taken s i t) (rest : runOps is t = .next u) : runOps (i :: is) s = .next u :=
  runOps_cons_next.mpr ⟨t, exec_of_taken first, rest⟩

/-- From an awake block at `Phase` 0 an iteration runs to the end: each micro-operation ends awake at the phase of the next,
and `SLP` enables interrupts (R45, R93). -/
theorem iterOps_completes (awake : s.asleep = false) (here : s.phase = 0#3) :
    ∃ t, runOps iterOps s = .next t ∧ t.phase = 0#3 ∧ t.intEnable = true :=
  ⟨_, runOps_cons_of_taken (.tck awake here) <| runOps_cons_of_taken (.btn awake rfl) <|
    runOps_cons_of_taken (.act awake rfl) <| runOps_cons_of_taken (.flt awake rfl) <|
    runOps_cons_of_taken (.ack awake rfl) <| runOps_cons_of_taken (.out awake rfl) <|
    runOps_cons_of_taken (.cli awake rfl) <| runOps_cons_of_taken (.slp awake rfl) rfl, rfl, rfl⟩

/-- From `Phase` 0 with interrupts enabled every number of tick iterations runs to the end and returns there: a delivered
`TICK` wakes the block for its iteration (R93, R101). -/
theorem tickIterOps_completes (n : Nat) (here : s.phase = 0#3) (enabled : s.intEnable = true) :
    ∃ t, runOps (tickIterOps n) s = .next t ∧ t.phase = 0#3 ∧ t.intEnable = true := by
  induction n generalizing s with
  | zero => exact ⟨s, rfl, here, enabled⟩
  | succ n ih =>
    have woken := Taken.tickDelivered enabled
    obtain ⟨t, iteration, here', enabled'⟩ := iterOps_completes (s := { s with
      tick := s.tick + 1#8, tickPending := true, tickIrq := false, asleep := false }) rfl here
    obtain ⟨u, rest, done⟩ := ih here' enabled'
    exact ⟨u, runOps_append_next.mpr ⟨t, runOps_cons_of_taken woken iteration, rest⟩, done⟩

/-- Settles O5, pseudo-operation by pseudo-operation. -/
theorem pseudoOpsComplete : Obligations.PseudoOpsComplete := by
  intro p s legal
  cases p with
  | iter =>
    obtain ⟨awake, here⟩ : s.asleep = false ∧ s.phase = 0#3 := by simpa [pseudoLegal] using legal
    obtain ⟨t, run, done⟩ := iterOps_completes awake here
    exact ⟨t, run, fun _ => done⟩
  | tickIter n =>
    obtain ⟨here, enabled⟩ : s.phase = 0#3 ∧ s.intEnable = true := by simpa [pseudoLegal] using legal
    obtain ⟨t, run, done⟩ := tickIterOps_completes n here enabled
    exact ⟨t, run, fun _ => done⟩
  | press | release | fault | clear => exact ⟨_, rfl, by simp⟩

end Sys2Proof.Proofs

/-! SUPPORT. The statements of 40_tick_source.md: the firing of the Tick Source (R101), the consuming of its flag (R102), and
the re-arm in time that premise ENV-1 gives (R104). -/

namespace Sys2Proof.Proofs

open Sys2Proof.Machine Sys2Proof.Laws

variable {s u : State} {i : Instr}

/-! ### Counts along a run -/

/-- An operation counted by `q` wherever it stands in the list is counted by `p`, if `q` implies `p` for the operations of
the list. -/
theorem countAlong_le_of_imp {p q : Instr → State → Bool} {ops : List Instr}
    (implies : ∀ i ∈ ops, ∀ s, q i s = true → p i s = true) (s : State) : countAlong q ops s ≤ countAlong p ops s := by
  induction ops generalizing s with
  | nil => exact le_rfl
  | cons i is ih =>
    obtain ⟨now, later⟩ := List.forall_mem_cons.mp implies
    have first : (if q i s then 1 else 0) ≤ if p i s then 1 else 0 := by
      cases counted : q i s with
      | true => simp [now s counted]
      | false => simp
    refine Nat.add_le_add first ?_
    cases exec i s with
    | next t => exact ih later t
    | fault r => exact le_rfl
    | refused r => exact le_rfl

/-- A run that completes is counted apart from what follows it. -/
theorem countAlong_append {p : Instr → State → Bool} {is : List Instr} (run : runOps is s = .next u) (js : List Instr) :
    countAlong p (is ++ js) s = countAlong p is s + countAlong p js u := by
  induction is generalizing s with
  | nil =>
    injection run with same
    simp [same, countAlong]
  | cons i is ih =>
    obtain ⟨t, first, rest⟩ := runOps_cons_next.mp run
    simp only [List.cons_append, countAlong, first, ih rest, Nat.add_assoc]

/-! ### The Tick Source -/

/-- A micro-operation is refused everywhere but awake at its phase (R46, R90). -/
theorem exec_refused_of_elsewhere {code : PhaseCode} (has : i.phaseCode? = some code)
    (elsewhere : ¬(s.asleep = false ∧ s.phase = code)) : ∃ r, exec i s = .refused r := by
  cases answer : exec i s with
  | next t => exact absurd ((exec_next_iff_of_phaseCode? has).mp ⟨t, answer⟩) elsewhere
  | fault r => exact absurd answer no_fault
  | refused r => exact ⟨r, rfl⟩

/-- Settles O7: awake at `Phase` 0 `TCK` is taken in its one way, elsewhere it is refused. -/
theorem tckConsumesTickFlag : Obligations.TckConsumesTickFlag :=
  ⟨rfl, fun _ => ⟨fun awake here => exec_of_taken (.tck awake here), exec_refused_of_elsewhere rfl⟩⟩

/-- Settles O15: the three ways `TICK` is taken. -/
theorem tickFiresOrResets : Obligations.TickFiresOrResets :=
  ⟨rfl, fun _ => ⟨fun enabled => exec_of_taken (.tickDelivered enabled),
    fun masked armed => exec_of_taken (.tickHeld masked armed),
    fun masked late => exec_of_taken (.tickFatal masked late)⟩⟩

/-! ### Premise ENV-1 -/

/-- A reset that is not `RST` is a firing that finds the last one still held (R101, R104). -/
theorem isLateTick_of_isReset (resets : isReset i s = true) (other : i ≠ .rst) : isLateTick i s = true := by
  obtain ⟨⟨fires, -⟩, held⟩ : (i = .tick ∧ s.intEnable = false) ∧ s.tickIrq = true := by
    simpa [isReset, other] using resets
  simp [isLateTick, fires, held]

/-- Under ENV-1 no run without `RST` resets the block (R104). -/
theorem noReset_of_respectsEnv1 {ops : List Instr} (env1 : respectsEnv1 ops s) (unreset : Instr.rst ∉ ops) :
    noReset ops s :=
  have late : ∀ i ∈ ops, ∀ s, isReset i s = true → isLateTick i s = true :=
    fun _ mem _ resets => isLateTick_of_isReset resets (ne_of_mem_of_not_mem mem unreset)
  Nat.le_zero.mp (env1 ▸ countAlong_le_of_imp late s)

/-- Under ENV-1 every `TICK` of a run finds the Tick Source re-armed (R104). -/
theorem tickIrq_of_respectsEnv1 {before after : List Instr} (env1 : respectsEnv1 (before ++ .tick :: after) s)
    (run : runOps before s = .next u) : u.tickIrq = false := by
  rw [respectsEnv1, countAlong_append run] at env1
  have inTime := ((countAlong_cons_eq_zero exec_tick).mp (Nat.eq_zero_of_add_eq_zero_left env1)).1
  simpa [isLateTick] using inTime

/-- A `TICK` that finds the Tick Source re-armed counts once, delivered or held (R71, R101). -/
theorem firedTick_of_tick {t : State} (armed : s.tickIrq = false) (runs : exec .tick s = .next t) :
    firedTick t = firedTick s + 1#8 :=
  firedTick_of_exec (by simp [isLateTick, armed]) (by decide) runs

/-- Settles O46: a reset would be a late firing, and a firing in time is delivered or held as `IntEnable` says. -/
theorem env1ExcludesFailSafeReset : Obligations.Env1ExcludesFailSafeReset := by
  refine ⟨fun _ _ => noReset_of_respectsEnv1, fun before after s u env1 run => ?_⟩
  have armed := tickIrq_of_respectsEnv1 env1 run
  rcases Bool.eq_false_or_eq_true u.intEnable with enabled | masked
  · have runs := exec_of_taken (.tickDelivered enabled)
    exact ⟨_, runs, fun _ => rfl, by simp [enabled], firedTick_of_tick armed runs⟩
  · have runs := exec_of_taken (.tickHeld masked armed)
    exact ⟨_, runs, by simp [masked], fun _ => rfl, firedTick_of_tick armed runs⟩

end Sys2Proof.Proofs

/-! SUPPORT. The statements of 41_debounce_filter.md: the button line (R111), the filter of `BTN` (R112), the debounce
guarantee (R113) and the held button (R115). -/

namespace Sys2Proof.Proofs

open Sys2Proof.Machine Sys2Proof.Laws

variable {s t : State} {i : Instr} {is : List Instr} {p : Instr → State → Bool}

/-! ### The button line and the filter -/

/-- Settles O16: `BTNPIN` is taken in its one way, and writing the level that stands there changes nothing. -/
theorem btnpinSetsOnlyTheLine : Obligations.BtnpinSetsOnlyTheLine :=
  ⟨rfl, rfl, fun v s => ⟨{ s with btnPin := v }, exec_btnpin, rfl, rfl, fun same => same ▸ rfl⟩⟩

/-- The gate test in the arithmetic of R103: the age of the last activity modulo 256. -/
theorem gateExpired_iff_age : s.gateExpired = true ↔ 3 ≤ (s.tick.toNat + 256 - s.lastActivity.toNat) % 256 := by
  rw [← ageOf_toNat, ageOf, gateExpired_eq_true]

/-- Settles O8: awake at `Phase` 1 `BTN` is taken in its one way, which each of the four cases of R112 evaluates; elsewhere
it is refused. -/
theorem btnFiltersSample : Obligations.BtnFiltersSample := by
  refine ⟨rfl, fun s => ⟨fun awake here => ?_, exec_refused_of_elsewhere rfl⟩⟩
  have runs := exec_of_taken (.btn awake here)
  refine ⟨fun pressed released opened => ?_, fun pressed ignored => ?_, fun released old => ?_, fun released young => ?_⟩
  · simpa [pressed, released, opened] using runs
  · rcases ignored with held | closed
    · simpa [pressed, held] using runs
    · simpa [pressed, closed] using runs
  · simpa [released, gateExpired_iff_age.mpr old] using runs
  · have unexpired : s.gateExpired = false := eq_false_of_ne_true (mt gateExpired_iff_age.mp (not_le.mpr young))
    simpa [released, unexpired] using runs

/-! ### What opens the gate, and what a press does to it -/

/-- A qualified press finds the gate open and closes it (R112). -/
theorem gate_of_isQualifiedPress (press : isQualifiedPress i s = true) (runs : exec i s = .next t) :
    s.debounceGate = true ∧ t.debounceGate = false := by
  obtain ⟨⟨rfl, unpressed⟩, emitted⟩ : (i = .btn ∧ s.pressEvent = false) ∧ t.pressEvent = true := by
    simpa [isQualifiedPress, runs] using press
  cases taken_of_exec runs with
  | btn awake here =>
    obtain ⟨⟨pressed, released⟩, opened⟩ : (s.btnPin = false ∧ s.debouncedButtonState = false) ∧ s.debounceGate = true := by
      simpa [unpressed] using emitted
    exact ⟨opened, by simp [pressed, released]⟩

/-- A gate that is open after an operation was open before it, or was opened by a reopening sample or by a reset (R112,
R148). -/
theorem gate_opened_cases (runs : exec i s = .next t) (opened : t.debounceGate = true) :
    s.debounceGate = true ∨ isReopening i s = true ∨ isReset i s = true := by
  cases taken_of_exec runs with
  | btn awake here =>
    cases line : s.btnPin with
    | false =>
      obtain ⟨before, -⟩ : s.debounceGate = true ∧ s.debouncedButtonState = true := by simpa [line] using opened
      exact .inl before
    | true =>
      have openOrOld : s.debounceGate = true ∨ s.gateExpired = true := by simpa [line] using opened
      have sampled : isReopening .btn s = s.gateExpired := by
        simp [isReopening, enabled, Instr.phaseCode?, awake, here, State.pressed, pinRead, line]
      exact openOrOld.imp_right fun old => .inl (sampled.trans old)
  | tickFatal masked late => exact .inr (.inr (isReset_of_late masked late))
  | rst => exact .inr (.inr rfl)
  | tck | act | flt | ack | out | cli | slp | tickDelivered | tickHeld | btnpin | fltpinSilent | fltpinDelivered
  | fltpinHeld => exact .inl opened

/-! ### The debounce guarantee -/

/-- A count goes on from the state in which the first operation ends. -/
theorem countAlong_cons_of_next (first : exec i s = .next t) :
    countAlong p (i :: is) s = (if p i s then 1 else 0) + countAlong p is t := by
  simp only [countAlong, first]

/-- A count ends at a refused operation. -/
theorem countAlong_cons_of_refused {r : Refusal} (first : exec i s = .refused r) :
    countAlong p (i :: is) s = if p i s then 1 else 0 := by
  simp only [countAlong, first, Nat.add_zero]

/-- A refused operation is no qualified press. -/
theorem isQualifiedPress_of_refused {r : Refusal} (refused : exec i s = .refused r) : isQualifiedPress i s = false := by
  simp [isQualifiedPress, refused]

/-- One operation keeps the balance of R113: a qualified press uses up the open gate it found, and an open gate was there or
is paid for by a reopening sample or a reset. -/
theorem press_add_gate_le (runs : exec i s = .next t) :
    (if isQualifiedPress i s then 1 else 0) + (if t.debounceGate then 1 else 0) ≤
      (if isReopening i s then 1 else 0) + (if isReset i s then 1 else 0) + (if s.debounceGate then 1 else 0) := by
  cases press : isQualifiedPress i s with
  | true =>
    obtain ⟨before, after⟩ := gate_of_isQualifiedPress press runs
    simp [before, after]
  | false =>
    cases after : t.debounceGate with
    | true =>
      rcases gate_opened_cases runs after with before | reopens | resets
      · simp [before]
      · simp [reopens, add_assoc]
      · simp [resets, add_right_comm _ 1]
    | false => simp

/-- Settles O41, by induction on the run: each operation keeps the balance of presses and openings. -/
theorem debounceGuarantee : Obligations.DebounceGuarantee := by
  intro ops
  induction ops with
  | nil => intro s; exact Nat.zero_le _
  | cons i is ih =>
    intro s
    cases first : exec i s with
    | next t =>
      have now := press_add_gate_le first
      have later := ih t
      simp only [countAlong_cons_of_next first]
      omega
    | fault r => exact absurd first no_fault
    | refused r =>
      have none : countAlong isQualifiedPress (i :: is) s = 0 := by
        simp [countAlong_cons_of_refused first, isQualifiedPress_of_refused first]
      rw [none]
      exact Nat.zero_le _

/-! ### The held button -/

/-- Only `BTNPIN 1` releases the button (R111). -/
theorem btnPin_low_of_exec (low : s.btnPin = false) (other : i ≠ .btnpin true) (runs : exec i s = .next t) :
    t.btnPin = false := by
  cases taken_of_exec runs with
  | btnpin v => simpa using other
  | tck | btn | act | flt | ack | out | cli | slp | tickDelivered | tickHeld | tickFatal | rst | fltpinSilent
  | fltpinDelivered | fltpinHeld => exact low

/-- While the button is held nothing but a reset opens the gate (R115). -/
theorem gate_closed_of_exec (low : s.btnPin = false) (closed : s.debounceGate = false) (quiet : isReset i s = false)
    (runs : exec i s = .next t) : t.debounceGate = false := by
  have held : isReopening i s = false := by simp [isReopening, pressed_eq_true.mpr low]
  simpa [closed, held, quiet] using mt (gate_opened_cases runs)

/-- With the gate closed no press qualifies (R112). -/
theorem isQualifiedPress_of_gate_closed (closed : s.debounceGate = false) (runs : exec i s = .next t) :
    isQualifiedPress i s = false := by
  refine eq_false_of_ne_true fun press => ?_
  obtain ⟨opened, -⟩ := gate_of_isQualifiedPress press runs
  exact nomatch closed.symm.trans opened

/-- Settles O42, by induction on the run: every operation leaves the button held and the gate closed. -/
theorem heldButtonKeepsGateClosed : Obligations.HeldButtonKeepsGateClosed := by
  intro ops
  induction ops with
  | nil =>
    intro s t _ closed _ _ run
    injection run with same
    exact ⟨same ▸ closed, rfl⟩
  | cons i is ih =>
    intro s t low closed unreleased quiet run
    obtain ⟨u, first, rest⟩ := runOps_cons_next.mp run
    obtain ⟨other, unreleasedLater⟩ := not_or.mp (mt List.mem_cons.mpr unreleased)
    obtain ⟨quietNow, quietLater⟩ := (countAlong_cons_eq_zero first).mp quiet
    have lowNext := btnPin_low_of_exec low (Ne.symm other) first
    have closedNext := gate_closed_of_exec low closed quietNow first
    obtain ⟨closedAtEnd, noneLater⟩ := ih u t lowNext closedNext unreleasedLater quietLater rest
    have noneNow := isQualifiedPress_of_gate_closed closed first
    exact ⟨closedAtEnd, (countAlong_cons_eq_zero first).mpr ⟨noneNow, noneLater⟩⟩

end Sys2Proof.Proofs

/-! SUPPORT. The statements of 42_fault_latch.md: the press action (R121), `FLTPIN` (R122), `FLT` (R123), `ACK` (R124), the
pending latches (R144, R145, R163), the transitions of the fault latch (R120, R125), and over runs the power cut (R123, R195),
the single pulse (R126), the clearing press (R127, R128) and the length of the pulse (R129). -/

namespace Sys2Proof.Proofs

open Sys2Proof.Machine Sys2Proof.Laws

variable {s t : State} {i : Instr} {ops : List Instr} {p q : Instr → State → Bool}

/-! ### The operations of the fault latch -/

/-- Settles O9: awake at `Phase` 2 `ACT` is taken in its one way, which each case of R121 evaluates. -/
theorem actAppliesPress : Obligations.ActAppliesPress := by
  refine ⟨rfl, fun s => ⟨fun awake here => ?_, exec_refused_of_elsewhere rfl⟩⟩
  have runs := exec_of_taken (.act awake here)
  refine ⟨fun unpressed => ?_, fun pressed latched => ?_, fun pressed unlatched => ?_⟩
  · simpa [unpressed] using runs
  · simpa [pressed, latched] using runs
  · simpa [pressed, unlatched] using runs

/-- A low line is sampled as active (R62, R88). -/
theorem faultActive_of_low (low : s.fltN = false) : s.faultActive = true := by
  simp [State.faultActive, pinRead, low]

/-- A line sampled as active is low (R62, R88). -/
theorem low_of_faultActive (active : s.faultActive = true) : s.fltN = false := by
  simpa [State.faultActive, pinRead] using active

/-- A line neither side pulls is sampled as inactive (R63). -/
theorem faultActive_of_released (released : s.fltExt = true) (idle : s.ackPulseActive = false) :
    s.faultActive = false :=
  eq_false_of_ne_true (mt faultActive_eq_true.mp (by simp [released, idle]))

/-- The block's own drive holds the line low (R63). -/
theorem low_of_drive (drives : s.ackPulseActive = true) : s.fltN = false :=
  low_of_faultActive (faultActive_eq_true.mpr (.inr drives))

/-- Settles O10: awake at `Phase` 3 `FLT` is taken in its one way, which each case of R123 evaluates. -/
theorem fltLatchesActiveLine : Obligations.FltLatchesActiveLine := by
  refine ⟨rfl, fun s => ⟨fun awake here => ?_, exec_refused_of_elsewhere rfl⟩⟩
  have runs := exec_of_taken (.flt awake here)
  refine ⟨fun released idle => ?_, fun low latched => ?_, fun low unlatched => ?_⟩
  · simpa [faultActive_of_released released idle] using runs
  · simpa [faultActive_eq_true.mpr low, latched] using runs
  · simpa [faultActive_eq_true.mpr low, unlatched] using runs

/-- The pulse test in the arithmetic of R103: the age of the stamp modulo 256. -/
theorem ackExpired_iff_age : s.ackExpired = true ↔ 2 ≤ (s.tick.toNat + 256 - s.ackPulseStart.toNat) % 256 := by
  rw [← ageOf_toNat, ageOf, ackExpired_eq_true]

/-- Settles O11: awake at `Phase` 4 `ACK` is taken in its one way, which each case of R124 evaluates. -/
theorem ackEndsOldDrive : Obligations.AckEndsOldDrive := by
  refine ⟨rfl, fun s => ⟨fun awake here => ?_, exec_refused_of_elsewhere rfl⟩⟩
  have runs := exec_of_taken (.ack awake here)
  refine ⟨fun kept => ?_, fun drives old => ?_⟩
  · rcases kept with idle | young
    · simpa [idle] using runs
    · have unexpired : s.ackExpired = false := eq_false_of_ne_true (mt ackExpired_iff_age.mp (not_le.mpr young))
      simpa [unexpired] using runs
  · simpa [drives, ackExpired_iff_age.mpr old] using runs

/-- Settles O17: the three ways `FLTPIN` is taken; writing the level that stands there changes nothing. -/
theorem fltpinRaisesOnChange : Obligations.FltpinRaisesOnChange :=
  ⟨rfl, rfl, fun v _ => ⟨fun same => (exec_of_taken (.fltpinSilent v (.inl same))).trans (same ▸ rfl),
    fun drives => exec_of_taken (.fltpinSilent v (.inr drives)),
    fun moved idle enabled => exec_of_taken (.fltpinDelivered v moved idle enabled),
    fun moved idle masked => exec_of_taken (.fltpinHeld v moved idle masked)⟩⟩

/-! ### The pending latches -/

/-- `FLTPIN` changes the line when the external side moves and the block does not drive (R122). -/
theorem isLineChange_fltpin {v : Level} :
    isLineChange (.fltpin v) s = true ↔ v ≠ s.fltExt ∧ s.ackPulseActive = false := by
  simp [isLineChange]

/-- A clear `TickIrq` is set by a masked firing only (R101, R145). -/
theorem tickIrq_set_iff (runs : exec i s = .next t) (clear : s.tickIrq = false) :
    t.tickIrq = true ↔ i = .tick ∧ s.intEnable = false := by
  cases taken_of_exec runs with
  | tickDelivered enabled => simp [enabled]
  | tickHeld masked => simp [masked]
  | tickFatal masked late => exact nomatch clear.symm.trans late
  | slp | rst => simp
  | tck | btn | act | flt | ack | out | cli | btnpin | fltpinSilent | fltpinDelivered | fltpinHeld => simp [clear]

/-- A clear `PcIrq` is set by a masked change of the line only (R122, R145). -/
theorem pcIrq_set_iff (runs : exec i s = .next t) (clear : s.pcIrq = false) :
    t.pcIrq = true ↔ isLineChange i s = true ∧ s.intEnable = false := by
  cases taken_of_exec runs with
  | fltpinSilent v silent =>
    have unchanged : ¬(v ≠ s.fltExt ∧ s.ackPulseActive = false) := by
      rcases silent with same | drives
      · simp [same]
      · simp [drives]
    simp [clear, isLineChange_fltpin, unchanged]
  | fltpinDelivered v moved idle enabled => simp [enabled]
  | fltpinHeld v moved idle masked => simp [isLineChange_fltpin, moved, idle, masked]
  | tck | btn | act | flt | ack | out | cli | slp | tickDelivered | tickHeld | tickFatal | rst | btnpin =>
    simp [clear, isLineChange]

/-- What clears a held firing: a delivery or a reset (R142, R144, R148). -/
theorem tickIrq_cleared_by (runs : exec i s = .next t) (held : s.tickIrq = true) (cleared : t.tickIrq = false) :
    i = .slp ∨ (i = .tick ∧ s.intEnable = true) ∨ isReset i s = true := by
  cases taken_of_exec runs with
  | slp => exact .inl rfl
  | tickDelivered enabled => exact .inr (.inl ⟨rfl, enabled⟩)
  | tickFatal masked late => exact .inr (.inr (isReset_of_late masked late))
  | rst => exact .inr (.inr rfl)
  | tickHeld masked armed => exact nomatch armed.symm.trans held
  | tck | btn | act | flt | ack | out | cli | btnpin | fltpinSilent | fltpinDelivered | fltpinHeld =>
    exact nomatch held.symm.trans cleared

/-- What clears a held pin change: a delivery or a reset (R124, R142, R144, R148). -/
theorem pcIrq_cleared_by (runs : exec i s = .next t) (held : s.pcIrq = true) (cleared : t.pcIrq = false) :
    i = .slp ∨ i = .ack ∨ (isLineChange i s = true ∧ s.intEnable = true) ∨ isReset i s = true := by
  cases taken_of_exec runs with
  | slp => exact .inl rfl
  | ack => exact .inr (.inl rfl)
  | fltpinDelivered v moved idle enabled => exact .inr (.inr (.inl ⟨isLineChange_fltpin.mpr ⟨moved, idle⟩, enabled⟩))
  | tickFatal masked late => exact .inr (.inr (.inr (isReset_of_late masked late)))
  | rst => exact .inr (.inr (.inr rfl))
  | fltpinHeld => cases cleared
  | tck | btn | act | flt | out | cli | tickDelivered | tickHeld | btnpin | fltpinSilent =>
    exact nomatch held.symm.trans cleared

/-- `SLP` and a reset leave nothing held (R142, R148). -/
theorem unheld_of_slp_or_reset (runs : exec i s = .next t) (ends : i = .slp ∨ isReset i s = true) :
    t.tickIrq = false ∧ t.pcIrq = false := by
  have taken := taken_of_exec runs
  rcases ends with rfl | resets
  · cases taken with
    | slp => exact ⟨rfl, rfl⟩
  · rw [eq_resetBlock_of_isReset taken resets]
    exact ⟨rfl, rfl⟩

/-- Whatever is held is held at `SLP`, with interrupts disabled (R48 I5, I6). -/
theorem atSlp_of_held (inv : BlockInv s) (held : s.tickIrq = true ∨ s.pcIrq = true) :
    s.phase = 7#3 ∧ s.intEnable = false :=
  ⟨inv.heldAtSlp held, inv.maskedExactlyAtSlp.mpr (inv.heldAtSlp held)⟩

/-- Settles O33, latch by latch; with the invariant a latch is held only where neither `ACK` nor a delivering raise can run. -/
theorem latchesSetOnlyWhileMasked : Obligations.LatchesSetOnlyWhileMasked := by
  intro i s t runs
  refine ⟨tickIrq_set_iff runs, tickIrq_cleared_by runs, pcIrq_cleared_by runs, fun inv =>
    ⟨pcIrq_set_iff runs, fun held => ⟨fun cleared => ?_, fun ends => (unheld_of_slp_or_reset runs ends).1⟩,
      fun held => ⟨fun cleared => ?_, fun ends => (unheld_of_slp_or_reset runs ends).2⟩⟩⟩
  · obtain ⟨-, masked⟩ := atSlp_of_held inv (.inl held)
    rcases tickIrq_cleared_by runs held cleared with slp | ⟨-, enabled⟩ | resets
    · exact .inl slp
    · exact nomatch masked.symm.trans enabled
    · exact .inr resets
  · obtain ⟨atSlp, masked⟩ := atSlp_of_held inv (.inr held)
    rcases pcIrq_cleared_by runs held cleared with slp | rfl | ⟨-, enabled⟩ | resets
    · exact .inl slp
    · obtain ⟨-, atAck, -⟩ := exec_ack_next.mp runs
      exact nomatch atSlp.symm.trans atAck
    · exact nomatch masked.symm.trans enabled
    · exact .inr resets

/-- A raised pin change changes nothing in an awake block with interrupts enabled that holds none (R144, R146). -/
theorem raiseIrq_pc_eq_self (enabled : s.intEnable = true) (awake : s.asleep = false) (unheld : s.pcIrq = false) :
    raiseIrq .pc s = s :=
  calc raiseIrq .pc s
    _ = { s with pcIrq := false, asleep := false } := raiseIrq_enabled enabled
    _ = { s with pcIrq := s.pcIrq, asleep := s.asleep } :=
      congrArg₂ (fun pc sleep => { s with pcIrq := pc, asleep := sleep }) unheld.symm awake.symm

/-- Settles O59: at `Phase` 4 the invariant has interrupts enabled and nothing held, and the block is awake, so a delivered
pin change finds nothing to change. -/
theorem ackPinChangeInvisible : Obligations.AckPinChangeInvisible := by
  intro s t inv runs
  obtain ⟨arbiter, -⟩ := blockInv_iff.mp inv
  cases taken_of_exec runs with
  | ack awake here =>
    obtain ⟨enabled, -, unheld⟩ := arbiter.beforeSlp (by simp [here])
    exact ⟨by simp [unheld], fun _ _ => raiseIrq_pc_eq_self enabled awake (by simp [unheld])⟩

/-! ### The transitions of the fault latch -/

/-- Settles O34: three operations write the two bits of the latch, and the invariant has no orphan drive at `ACK`. -/
theorem faultLatchTransitions : Obligations.FaultLatchTransitions := by
  intro i s t inv runs quiet changed
  cases taken_of_exec runs with
  | act =>
    have pressed : s.pressEvent = true := by
      refine eq_true_of_ne_false fun unpressed => changed ?_
      simp [State.latchState, unpressed]
    have latched : s.faultLatched = true := by
      refine eq_true_of_ne_false fun unlatched => changed ?_
      simp [State.latchState, unlatched]
    cases drives : s.ackPulseActive with
    | false => exact .inr (.inr (.inl (by simp [State.latchState, pressed, latched, drives])))
    | true => exact .inr (.inr (.inr (.inl (by simp [State.latchState, pressed, latched, drives]))))
  | flt =>
    have unlatched : s.faultLatched = false := by
      refine eq_false_of_ne_true fun latched => changed ?_
      simp [State.latchState, latched]
    have active : s.faultActive = true := by
      refine eq_true_of_ne_false fun inactive => changed ?_
      simp [State.latchState, inactive]
    cases drives : s.ackPulseActive with
    | false => exact .inl (by simp [State.latchState, unlatched, active, drives, low_of_faultActive active])
    | true => exact .inr (.inr (.inr (.inr (by simp [State.latchState, unlatched, active, drives]))))
  | ack awake here =>
    have drives : s.ackPulseActive = true := by
      refine eq_true_of_ne_false fun idle => changed ?_
      simp [State.latchState, idle]
    have old : s.ackExpired = true := by
      refine eq_true_of_ne_false fun young => changed ?_
      simp [State.latchState, young]
    have latched := inv.ackLatched (by simp [here]) drives
    exact .inr (.inl ⟨by simp [State.latchState, latched, drives], by simp [State.latchState, latched, old], rfl,
      ackExpired_iff_age.mp old⟩)
  | tickFatal masked late => exact nomatch quiet.symm.trans (isReset_of_late masked late)
  | rst => cases quiet
  | tck | btn | out | cli | slp | tickDelivered | tickHeld | btnpin | fltpinSilent | fltpinDelivered | fltpinHeld =>
    exact absurd rfl changed

/-! ### Runs without a kind of operation -/

/-- What every operation but the `p` ones keeps, a run without them keeps. -/
theorem kept_along {P : State → Prop} (keeps : ∀ {i s t}, P s → p i s = false → exec i s = .next t → P t)
    (start : P s) (none : countAlong p ops s = 0) (run : runOps ops s = .next t) : P t := by
  induction ops generalizing s with
  | nil =>
    injection run with same
    exact same ▸ start
  | cons i is ih =>
    obtain ⟨u, first, rest⟩ := runOps_cons_next.mp run
    obtain ⟨noneNow, noneLater⟩ := (countAlong_cons_eq_zero first).mp none
    exact ih (keeps start noneNow first) noneLater rest

/-- The operations of either kind are no more than those of the two kinds counted apart. -/
theorem countAlong_or_le (ops : List Instr) (s : State) :
    countAlong (fun i s => p i s || q i s) ops s ≤ countAlong p ops s + countAlong q ops s := by
  induction ops generalizing s with
  | nil => exact le_rfl
  | cons i is ih =>
    have now : (if (p i s || q i s) = true then 1 else 0) ≤ (if p i s then 1 else 0) + (if q i s then 1 else 0) := by
      cases p i s <;> cases q i s <;> decide
    cases first : exec i s with
    | next u =>
      have later := ih u
      rw [countAlong_cons_of_next first, countAlong_cons_of_next first, countAlong_cons_of_next first]
      omega
    | fault r => exact absurd first no_fault
    | refused r => simpa [countAlong_cons_of_refused first] using now

/-- Without an `ACT` no press is applied (R121). -/
theorem countAlong_isPressApplied_of_no_act (noAct : Instr.act ∉ ops) (s : State) :
    countAlong isPressApplied ops s = 0 := by
  induction ops generalizing s with
  | nil => rfl
  | cons i is ih =>
    obtain ⟨other, noActLater⟩ := not_or.mp (mt List.mem_cons.mpr noAct)
    have now : isPressApplied i s = false := by simp [isPressApplied, Ne.symm other]
    cases first : exec i s with
    | next u => exact (countAlong_cons_eq_zero first).mpr ⟨now, ih noActLater u⟩
    | fault r => exact absurd first no_fault
    | refused r => simp [countAlong_cons_of_refused first, now]

/-! ### The power cut -/

/-- After `FLT` on a low line there is no power request: it is cut now, or was when the fault was latched (R123, R48 I1). -/
theorem powerRequested_off_of_flt (low : s.fltN = false) (apart : ¬(s.powerRequested = true ∧ s.faultLatched = true))
    (runs : exec .flt s = .next t) : t.powerRequested = false := by
  cases taken_of_exec runs with
  | flt =>
    cases latched : s.faultLatched with
    | true => simpa [latched] using apart
    | false => simp [faultActive_of_low low]

/-- Only an applied press turns the power request on (R121, R123). -/
theorem powerRequested_off_of_exec (off : s.powerRequested = false) (unpressed : isPressApplied i s = false)
    (runs : exec i s = .next t) : t.powerRequested = false := by
  cases taken_of_exec runs with
  | act =>
    have none : s.pressEvent = false := by simpa [isPressApplied] using unpressed
    simp [off, none]
  | flt => simp [off]
  | tickFatal | rst => rfl
  | tck | btn | ack | out | cli | slp | tickDelivered | tickHeld | btnpin | fltpinSilent | fltpinDelivered | fltpinHeld =>
    exact off

/-- Settles O36: `FLT` leaves no request, and without a press none comes. -/
theorem powerStaysOffUntilPress : Obligations.PowerStaysOffUntilPress := by
  intro ops s t low apart unpressed run
  obtain ⟨u, first, rest⟩ := runOps_cons_next.mp run
  obtain ⟨-, unpressedLater⟩ := (countAlong_cons_eq_zero first).mp unpressed
  exact kept_along powerRequested_off_of_exec (powerRequested_off_of_flt low apart first) unpressedLater rest

/-- After `FLT` on a low line a fault is latched (R123). -/
theorem faultLatched_of_flt (low : s.fltN = false) (runs : exec .flt s = .next t) : t.faultLatched = true := by
  cases taken_of_exec runs with
  | flt => simp [faultActive_of_low low]

/-- What may come between two micro-operations is no `ACT` (R17). -/
theorem no_act_of_isBetween (between : ops.all isBetween = true) : Instr.act ∉ ops :=
  fun mem => nomatch List.all_eq_true.mp between .act mem

/-- `OUT` shows a latched fault without a power request as power off and Red (R136). -/
theorem outputs_of_out (off : t.powerRequested = false) (latched : t.faultLatched = true)
    (runs : exec .out s = .next t) :
    t.powerEnabled = false ∧ t.indicator = .red ∧ outLevel .pwrEnN t = true ∧ t.phase = 6#3 := by
  cases taken_of_exec runs with
  | out =>
    simp only at off latched
    simp [off, latched, outLevel, derivedIndicator]

/-- Settles O39: by O36 the request and by O35 the latch stand as `FLT` left them, and `OUT` shows them. -/
theorem faultCutsPowerInIteration : Obligations.FaultCutsPowerInIteration := by
  intro e₁ e₂ s t between₁ between₂ low unlatched quiet run
  have noAct : Instr.act ∉ e₁ ++ .ack :: e₂ ++ [.out] := by
    simp [no_act_of_isBetween between₁, no_act_of_isBetween between₂]
  obtain ⟨u, first, rest⟩ := runOps_cons_next.mp run
  obtain ⟨-, quietLater⟩ := (countAlong_cons_eq_zero first).mp quiet
  have unpressedLater := countAlong_isPressApplied_of_no_act noAct u
  have off : t.powerRequested = false :=
    powerStaysOffUntilPress _ s t low (by simp [unlatched])
      ((countAlong_cons_eq_zero first).mpr ⟨rfl, unpressedLater⟩) run
  have latched : t.faultLatched = true :=
    faultMemoryPersists _ u t (faultLatched_of_flt low first) unpressedLater quietLater rest
  obtain ⟨v, -, last⟩ := runOps_append_next.mp rest
  obtain ⟨w, out, done⟩ := runOps_cons_next.mp last
  injection done with same
  obtain ⟨enabled, red, level, ended⟩ := outputs_of_out off latched (same ▸ out)
  exact ⟨off, latched, enabled, red, level, ended⟩

/-! ### The pulse -/

/-- In `u` the fault is latched, with the stamp of `s` and no drive that `s` has not (R126). -/
structure NoNewPulse (s u : State) : Prop where
  latched : u.faultLatched = true
  sameStamp : u.ackPulseStart = s.ackPulseStart
  stillOver : s.ackPulseActive = false → u.ackPulseActive = false

/-- While the fault is latched no operation starts a pulse: `FLT` starts one only where none is latched (R123, R126). -/
theorem NoNewPulse.after_exec {u : State} (kept : NoNewPulse s u) (harmless : (isPressApplied i u || isReset i u) = false)
    (runs : exec i u = .next t) : NoNewPulse s t := by
  obtain ⟨unpressed, quiet⟩ := Bool.or_eq_false_iff.mp harmless
  have latched := faultLatched_of_exec kept.latched unpressed quiet runs
  cases taken_of_exec runs with
  | flt => exact ⟨latched, by simp [kept.latched, kept.sameStamp], fun idle => by simp [kept.latched, kept.stillOver idle]⟩
  | ack => exact ⟨latched, kept.sameStamp, fun idle => by simp [kept.stillOver idle]⟩
  | tickFatal masked late => exact nomatch quiet.symm.trans (isReset_of_late masked late)
  | rst => cases quiet
  | tck | btn | act | out | cli | slp | tickDelivered | tickHeld | btnpin | fltpinSilent | fltpinDelivered | fltpinHeld =>
    exact ⟨latched, kept.sameStamp, kept.stillOver⟩

/-- Settles O37: every operation of such a run keeps `NoNewPulse`. -/
theorem noRetriggerWhileLatched : Obligations.NoRetriggerWhileLatched := by
  intro ops s t latched unpressed quiet run
  have harmless : countAlong (fun i s => isPressApplied i s || isReset i s) ops s = 0 :=
    Nat.le_zero.mp ((countAlong_or_le ops s).trans_eq (by rw [unpressed, quiet]))
  obtain ⟨-, sameStamp, stillOver⟩ := kept_along NoNewPulse.after_exec (s := s) ⟨latched, rfl, id⟩ harmless run
  exact ⟨sameStamp, stillOver⟩

/-- Settles O38: `ACT` clears the latch (O9) and leaves the line low, so `FLT` latches again (O10). -/
theorem clearingPressRelatches : Obligations.ClearingPressRelatches := by
  intro s awake here pressed latched low
  obtain ⟨-, clears, -⟩ := (actAppliesPress.2 s).1 awake here
  obtain ⟨-, -, relatches⟩ :=
    (fltLatchesActiveLine.2 { s with pressEvent := false, faultLatched := false, phase := 3#3 }).1 awake rfl
  have run : runOps [.act, .flt] s = _ :=
    runOps_cons_next.mpr ⟨_, clears pressed latched, runOps_cons_next.mpr ⟨_, relatches low rfl, rfl⟩⟩
  simpa [latched] using run

/-- The block drives the line, and the firings since the stamp, delivered or held, together with `left` more to come, are too
few to end the drive (R129). -/
structure PulseYoung (left : Nat) (s : State) : Prop where
  drives : s.ackPulseActive = true
  young : (ageOf s.tick s.ackPulseStart).toNat + bitNat s.tickIrq + left ≤ 1

/-- A firing adds at most one to an age (R103). -/
theorem ageOf_add_one_le (now since : TickVal) : (ageOf (now + 1#8) since).toNat ≤ (ageOf now since).toNat + 1 := by
  have next : ageOf (now + 1#8) since = nextTick (ageOf now since) := add_sub_right_comm now 1#8 since
  rw [next, nextTick_toNat]
  exact Nat.mod_le _ _

/-- A stamp taken now has age 0 (R103). -/
theorem ageOf_self (now : TickVal) : ageOf now now = 0#8 := sub_self now

/-- A young pulse is not old enough for `ACK` to end it (R124). -/
theorem PulseYoung.unexpired {n : Nat} (pulse : PulseYoung n s) : s.ackExpired = false := by
  have young : (s.tick - s.ackPulseStart).toNat + _ + n ≤ 1 := pulse.young
  exact eq_false_of_ne_true (mt ackExpired_eq_true.mp (by omega))

/-- `FLT` latches a low line with a fresh pulse (R123). -/
theorem pulseYoung_of_flt {n : Nat} (low : s.fltN = false) (unlatched : s.faultLatched = false)
    (few : bitNat s.tickIrq + n ≤ 1) (runs : exec .flt s = .next t) : PulseYoung n t := by
  cases taken_of_exec runs with
  | flt => exact ⟨by simp [faultActive_of_low low, unlatched],
      by simpa [faultActive_of_low low, unlatched, ageOf_self] using few⟩

/-- A pulse young enough for the firing of `i`, if it has one, stays young: a firing makes it one older, `SLP` only moves a
held firing into `Tick`, and `FLT` can only restart it (R127, R129). -/
theorem PulseYoung.after_exec {n : Nat} (pulse : PulseYoung (firings [i] + n) s) (other : i ≠ .rst)
    (runs : exec i s = .next t) : PulseYoung n t := by
  have drives := pulse.drives
  have young := pulse.young
  have older := ageOf_add_one_le s.tick s.ackPulseStart
  cases taken_of_exec runs with
  | flt =>
    rcases Bool.eq_false_or_eq_true s.faultLatched with latched | unlatched
    · exact ⟨by simp [drives], by simpa [latched, firings] using young⟩
    · have few : bitNat s.tickIrq + (0 + n) ≤ 1 := Nat.le_trans (by omega) young
      exact pulseYoung_of_flt (low_of_drive drives) unlatched (by omega) runs
  | ack => exact ⟨by simp [drives, pulse.unexpired], by simpa [firings] using young⟩
  | slp =>
    cases held : s.tickIrq with
    | false => exact ⟨drives, by simpa [held, bitNat, firings] using young⟩
    | true =>
      have few : (ageOf s.tick s.ackPulseStart).toNat + 1 + n ≤ 1 := by simpa [held, bitNat, firings] using young
      exact ⟨drives, Nat.le_trans (by simpa [held, bitNat] using older) few⟩
  | tickDelivered =>
    have few : (ageOf s.tick s.ackPulseStart).toNat + bitNat s.tickIrq + (1 + n) ≤ 1 := young
    exact ⟨drives, Nat.le_trans (by simpa [bitNat] using older) (by omega : _ + 1 + n ≤ 1)⟩
  | tickHeld masked armed =>
    exact ⟨drives, by simpa [armed, bitNat, firings, Nat.add_assoc] using young⟩
  | tickFatal masked late =>
    have few : (ageOf s.tick s.ackPulseStart).toNat + 1 + (1 + n) ≤ 1 := by simpa [late, bitNat, firings] using young
    omega
  | rst => exact absurd rfl other
  | tck | btn | act | out | cli | btnpin | fltpinSilent | fltpinDelivered | fltpinHeld =>
    exact ⟨drives, by simpa [firings] using young⟩

/-- A pulse young enough for the firings of a run without `RST` is young at its end. -/
theorem PulseYoung.after_run (pulse : PulseYoung (firings ops) s) (unreset : Instr.rst ∉ ops)
    (run : runOps ops s = .next t) : PulseYoung 0 t := by
  induction ops generalizing s with
  | nil =>
    injection run with same
    exact same ▸ pulse
  | cons i is ih =>
    obtain ⟨u, first, rest⟩ := runOps_cons_next.mp run
    obtain ⟨other, unresetLater⟩ := not_or.mp (mt List.mem_cons.mpr unreset)
    rw [firings_cons] at pulse
    exact ih (pulse.after_exec (Ne.symm other) first) unresetLater rest

/-- Settles O40: the pulse `FLT` starts is young enough for one firing, so it still drives the line at the end. -/
theorem pulseSpansTwoFirings : Obligations.PulseSpansTwoFirings := by
  intro ops s t low unlatched unheld few unreset run
  obtain ⟨u, first, rest⟩ := runOps_cons_next.mp run
  have started : PulseYoung (firings ops) u := pulseYoung_of_flt low unlatched (by simpa [unheld, bitNat] using few) first
  have drives := (started.after_run unreset rest).drives
  exact ⟨drives, low_of_drive drives⟩

end Sys2Proof.Proofs

/-! SUPPORT. The statements of 43_output_deriver.md: the three rows of the output function (R136, R137), and the outputs as a
function of the power request and the fault memory alone (R138). -/

namespace Sys2Proof.Proofs

open Sys2Proof.Machine Sys2Proof.Laws

variable {s t : State}

/-! ### The output function and the indicator wires -/

/-- The first row of R137's table: a power request shows Green, whether or not a fault is latched. -/
@[simp] theorem derivedIndicator_of_requested (faultLatched : Bit) : derivedIndicator true faultLatched = .green := rfl

/-- The second row of R137's table. -/
@[simp] theorem derivedIndicator_of_latched : derivedIndicator false true = .red := rfl

/-- The third row of R137's table. -/
@[simp] theorem derivedIndicator_of_unlatched : derivedIndicator false false = .off := rfl

/-- Wire A is high for Red only (R41, R87). -/
@[simp] theorem outLevel_ledA (s : State) : outLevel .ledA s = decide (s.indicator = .red) := by
  obtain ⟨-, -, -, redIff, -, -⟩ := outputLinesFollowFields s
  exact Bool.eq_iff_iff.mpr (redIff.trans decide_eq_true_iff.symm)

/-- Wire B is high for Green only (R41, R87). -/
@[simp] theorem outLevel_ledB (s : State) : outLevel .ledB s = decide (s.indicator = .green) := by
  obtain ⟨-, -, -, -, greenIff, -⟩ := outputLinesFollowFields s
  exact Bool.eq_iff_iff.mpr (greenIff.trans decide_eq_true_iff.symm)

/-- Settles O12: awake at `Phase` 5 `OUT` is taken in its one way, which each row of R136 evaluates. -/
theorem outDerivesOutputs : Obligations.OutDerivesOutputs := by
  refine ⟨rfl, fun s => ⟨fun awake here => ?_, exec_refused_of_elsewhere rfl⟩⟩
  have runs := exec_of_taken (.out awake here)
  refine ⟨fun requested => ?_, fun off latched => ?_, fun off unlatched => ?_⟩
  · exact ⟨_, by simpa [requested] using runs, rfl, rfl, by simp, by simp⟩
  · exact ⟨_, by simpa [off, latched] using runs, rfl, rfl, by simp, by simp⟩
  · exact ⟨_, by simpa [off, unlatched] using runs, rfl, rfl, by simp, by simp⟩

/-! ### What the outputs depend on -/

/-- The levels of the output lines are told from the two output latches (R41). -/
theorem outLevel_congr (enabled : s.powerEnabled = t.powerEnabled) (shown : s.indicator = t.indicator) (p : OutPin) :
    outLevel p s = outLevel p t := by
  cases p with
  | pwrEnN => simp [outLevel, enabled]
  | ledA | ledB => simp [shown]

/-- `OUT` leaves the output latches as R136 derives them from the power request and the fault memory before it. -/
theorem latches_of_out (runs : exec .out s = .next t) :
    t.powerEnabled = s.powerRequested ∧ t.indicator = derivedIndicator s.powerRequested s.faultLatched := by
  cases taken_of_exec runs with
  | out => exact ⟨rfl, rfl⟩

/-- The two wires are never both high: no indicator is Red and Green (R138 (c)). -/
theorem not_ledA_and_ledB (s : State) : ¬(outLevel .ledA s = true ∧ outLevel .ledB s = true) := by
  rintro ⟨levelA, levelB⟩
  have red : s.indicator = .red := by simpa using levelA
  have green : s.indicator = .green := by simpa using levelB
  exact nomatch red.symm.trans green

/-- Settles O54: the latches after `OUT` are derived from the two fields, and the lines follow the latches. -/
theorem outputsPureAndIdempotent : Obligations.OutputsPureAndIdempotent := by
  refine ⟨fun s s' t t' runs runs' sameRequest sameLatch => ?_, not_ledA_and_ledB⟩
  obtain ⟨enabled, shown⟩ := latches_of_out runs
  obtain ⟨enabled', shown'⟩ := latches_of_out runs'
  have sameEnable : t.powerEnabled = t'.powerEnabled := by rw [enabled, enabled', sameRequest]
  have sameIndicator : t.indicator = t'.indicator := by rw [shown, shown', sameRequest, sameLatch]
  exact ⟨sameEnable, sameIndicator, outLevel_congr sameEnable sameIndicator⟩

end Sys2Proof.Proofs

/-! SUPPORT. The statements of 44_sleep_and_arbiter.md: `CLI` (R141), `SLP` (R142), `RST` (R148), what sleep holds and what
ends it (R150, R174), the critical region (R145, R187), and the falling asleep of a block left alone (R143, R174, R182). -/

namespace Sys2Proof.Proofs

open Sys2Proof.Machine Sys2Proof.Laws

variable {s t : State} {i : Instr} {events : List Instr}

/-! ### The operations of the arbiter -/

/-- Settles O13: awake at `Phase` 6 `CLI` is taken in its one way. -/
theorem cliOpensCriticalRegion : Obligations.CliOpensCriticalRegion :=
  ⟨rfl, fun _ => ⟨fun awake here => exec_of_taken (.cli awake here), exec_refused_of_elsewhere rfl⟩⟩

/-- Settles O14: awake at `Phase` 7 `SLP` is taken in its one way; its three tests for sleep are one. -/
theorem slpChecksSleepsDelivers : Obligations.SlpChecksSleepsDelivers := by
  refine ⟨rfl, fun s => ⟨fun awake here => ?_, exec_refused_of_elsewhere rfl⟩⟩
  simpa using exec_of_taken (.slp awake here)

/-- Settles O6: `RST` ends in the reset state, and so does the firing that finds the last one held. -/
theorem resetSetsEveryField : Obligations.ResetSetsEveryField :=
  ⟨rfl, fun s => ⟨resetBlock s, exec_rst, rfl, rfl, rfl, rfl, by simp, by simp, rfl,
    fun masked late => exec_of_taken (.tickFatal masked late)⟩, rfl⟩

/-! ### Sleep -/

/-- `FLTPIN` leaves the line alone when the external side stands or the block drives (R122). -/
theorem isLineChange_of_silent {v : Level} (silent : v = s.fltExt ∨ s.ackPulseActive = true) :
    isLineChange (.fltpin v) s = false := by
  rcases silent with same | drives
  · simp [isLineChange, same]
  · simp [isLineChange, drives]

/-- Settles O31: no micro-operation runs asleep and nothing is held unmasked; of the ways that are left, two move an
environment level only and the others wake the block. -/
theorem sleepHoldsAllFields : Obligations.SleepHoldsAllFields := by
  intro i s t asleep enabled runs
  cases taken_of_exec runs with
  | tck awake | btn awake | act awake | flt awake | ack awake | out awake | cli awake | slp awake =>
    exact nomatch asleep.symm.trans awake
  | tickHeld masked | tickFatal masked | fltpinHeld v moved idle masked => exact nomatch enabled.symm.trans masked
  | tickDelivered | rst => simp
  | fltpinDelivered v moved idle => simp [isLineChange_fltpin, moved, idle]
  | btnpin v => simp [asleep, isLineChange]
  | fltpinSilent v silent => simp [asleep, isLineChange_of_silent silent]

/-! ### The critical region -/

/-- With interrupts disabled, what is not the sequencer's, no `RST` and no late firing sets the latch of what it raises and,
but for the environment's levels, does nothing else (R145). -/
theorem exec_masked (masked : s.intEnable = false) (between : isBetween i = true) (inTime : isLateTick i s = false) :
    ∃ btn flt, exec i s = .next { s with
      tickIrq := s.tickIrq || decide (i = .tick), pcIrq := s.pcIrq || isLineChange i s, btnPin := btn, fltExt := flt } := by
  cases i with
  | tck | btn | act | flt | ack | out | cli | slp | rst => cases between
  | tick =>
    have armed : s.tickIrq = false := by simpa [isLateTick] using inTime
    exact ⟨s.btnPin, s.fltExt, by simpa [isLineChange] using exec_of_taken (.tickHeld masked armed)⟩
  | btnpin v => exact ⟨v, s.fltExt, by simp [isLineChange, exec_btnpin]⟩
  | fltpin v =>
    by_cases moves : v ≠ s.fltExt ∧ s.ackPulseActive = false
    · obtain ⟨moved, idle⟩ := moves
      have runs := exec_of_taken (.fltpinHeld v moved idle masked)
      exact ⟨s.btnPin, v, by simpa [isLineChange_fltpin.mpr ⟨moved, idle⟩] using runs⟩
    · have silent : v = s.fltExt ∨ s.ackPulseActive = true := by simpa [imp_iff_not_or] using moves
      exact ⟨s.btnPin, v, by simpa [isLineChange_of_silent silent] using exec_of_taken (.fltpinSilent v silent)⟩

/-- An operation fires once if it is `TICK`, and otherwise not at all. -/
theorem firings_singleton (i : Instr) : firings [i] = bitNat (decide (i = .tick)) := List.count_singleton

/-- Two bits count at least as much as the one that joins them. -/
theorem bitNat_or_le (a b : Bit) : bitNat (a || b) ≤ bitNat a + bitNat b := by
  cases a <;> cases b <;> decide

/-- With interrupts disabled, the events of a run with one firing at most, held or to come, are remembered in the latches,
and but for the environment's levels nothing else is changed (R145, R187). -/
theorem runOps_masked (masked : s.intEnable = false) (between : events.all isBetween = true)
    (few : bitNat s.tickIrq + firings events ≤ 1) :
    ∃ btn flt, runOps events s = .next { s with
      tickIrq := s.tickIrq || decide (firings events ≠ 0),
      pcIrq := s.pcIrq || decide (countAlong isLineChange events s ≠ 0), btnPin := btn, fltExt := flt } := by
  induction events generalizing s with
  | nil => exact ⟨s.btnPin, s.fltExt, by simp [runOps, firings, countAlong]⟩
  | cons i is ih =>
    obtain ⟨betweenNow, betweenLater⟩ : isBetween i = true ∧ is.all isBetween = true := by simpa using between
    rw [firings_cons, firings_singleton] at few
    have inTime : isLateTick i s = false := by
      by_contra late
      obtain ⟨fires, held⟩ : i = .tick ∧ s.tickIrq = true := by simpa [isLateTick] using late
      simp [fires, held, bitNat] at few
    have fewLater : bitNat (s.tickIrq || decide (i = .tick)) + firings is ≤ 1 := by
      have joined := bitNat_or_le s.tickIrq (decide (i = .tick))
      omega
    obtain ⟨btn, flt, first⟩ := exec_masked masked betweenNow inTime
    obtain ⟨btn', flt', rest⟩ := ih (s := { s with
      tickIrq := s.tickIrq || decide (i = .tick), pcIrq := s.pcIrq || isLineChange i s, btnPin := btn, fltExt := flt })
      masked betweenLater fewLater
    refine ⟨btn', flt', runOps_cons_next.mpr ⟨_, first, rest.trans ?_⟩⟩
    rw [firings_cons, firings_singleton, countAlong_cons_of_next first]
    cases decide (i = .tick) <;> cases isLineChange i s <;> simp [bitNat]

/-- Settles O45: the latches after the events say what came, and `SLP` answers them (O14). -/
theorem heldInterruptEndsSleep : Obligations.HeldInterruptEndsSleep := by
  intro events s awake here masked armed unheld between few
  obtain ⟨btn, flt, run⟩ := runOps_masked masked between (by simpa [armed, bitNat] using few)
  have slp := (slpChecksSleepsDelivers.2 { s with
    tickIrq := s.tickIrq || decide (firings events ≠ 0),
    pcIrq := s.pcIrq || decide (countAlong isLineChange events s ≠ 0), btnPin := btn, fltExt := flt }).1 awake here
  refine ⟨_, runOps_append_next.mpr ⟨_, run, runOps_cons_next.mpr ⟨_, slp, rfl⟩⟩, ?_, ?_, rfl, rfl, rfl, rfl⟩
  · simp [armed, unheld, and_assoc]
  · rcases Nat.le_one_iff_eq_zero_or_eq_one.mp few with none | one
    · simp [armed, none]
    · simp [armed, one]

/-! ### Falling asleep -/

/-- A run of a machine goes on from the state in which its first part ends. -/
theorem run_add_of_next {M : Host.Core} {m n : Nat} {s t : M.State} (first : M.run m s = .next t) :
    M.run (m + n) s = M.run n t := by
  induction m generalizing s with
  | zero =>
    injection first with same
    rw [same, Nat.zero_add]
  | succ m ih =>
    rw [Nat.succ_add]
    cases steps : M.step s with
    | next u => rw [run_succ_of_next steps] at first ⊢; exact ih first
    | fault r => simp [Host.Core.run, steps] at first
    | refused r => rw [run_succ_of_refused steps] at first; cases first

/-- Nothing keeps `SLP` from sleeping: no tick is unconsumed and nothing is held (R142, R143). -/
def NothingPending (s : State) : Prop := s.tickPending = false ∧ s.tickIrq = false ∧ s.pcIrq = false

/-- The step of an awake block left alone is the micro-operation of its phase (R46). -/
theorem step_of_phaseCode? (awake : s.asleep = false) (alone : s.trace = []) (has : i.phaseCode? = some s.phase) :
    step s = exec i s := by
  rw [step_sequencer alone awake, eq_microInstr_of_phaseCode? has]

/-- Before `SLP` the sequencer neither sleeps nor makes anything pending (R143). -/
theorem taken_beforeSlp (taken : Taken s i t) (mine : i.agent = .sequencer) (before : s.phase ≠ 7#3) :
    t.asleep = false ∧ t.trace = s.trace ∧ (NothingPending s → NothingPending t) := by
  cases taken with
  | tck awake => exact ⟨awake, rfl, fun ⟨_, tick, pc⟩ => ⟨rfl, tick, pc⟩⟩
  | ack awake => exact ⟨awake, rfl, fun ⟨pending, tick, pc⟩ => ⟨pending, tick, by simp [pc]⟩⟩
  | btn awake | act awake | flt awake | out awake | cli awake => exact ⟨awake, rfl, id⟩
  | slp awake here => exact absurd here before
  | tickDelivered | tickHeld | tickFatal | rst | btnpin | fltpinSilent | fltpinDelivered | fltpinHeld => cases mine

/-- An awake block left alone goes from one phase before `SLP` to the next (R45, R46). -/
theorem step_beforeSlp (awake : s.asleep = false) (alone : s.trace = []) (before : s.phase ≠ 7#3) :
    ∃ t, step s = .next t ∧ t.phase.toNat = s.phase.toNat + 1 ∧ t.asleep = false ∧ t.trace = [] ∧
      (NothingPending s → NothingPending t) := by
  obtain ⟨mine, t, runs⟩ := (sequencer_runs_iff awake).mpr rfl
  obtain ⟨awake', kept, nothing⟩ := taken_beforeSlp (taken_of_exec runs) mine before
  have advanced := (phaseAdvancesModEight _ s t runs).1 mine
  have notLast : s.phase.toNat ≠ 7 := fun last => before (BitVec.eq_of_toNat_eq last)
  have := s.phase.isLt
  exact ⟨t, (step_sequencer alone awake).trans runs, by omega, awake', kept.trans alone, nothing⟩

/-- What a block left alone is at the end of its iteration (R142): back at `Phase` 0 with both latches clear. -/
structure AtBoundary (s : State) : Prop where
  atTck : s.phase = 0#3
  armed : s.tickIrq = false
  unheld : s.pcIrq = false
  alone : s.trace = []

/-- An awake block left alone ends its iteration with the `SLP` that is `n` micro-operations ahead, asleep if nothing was
pending. -/
theorem run_to_boundary {n : Nat} (awake : s.asleep = false) (alone : s.trace = []) (ahead : s.phase.toNat + n = 7) :
    ∃ t, Sys2Proof.core.run (n + 1) s = .next t ∧ AtBoundary t ∧ (NothingPending s → t.asleep = true) := by
  induction n generalizing s with
  | zero =>
    have here : s.phase = 7#3 := BitVec.eq_of_toNat_eq ahead
    have runs := (slpChecksSleepsDelivers.2 s).1 awake here
    have steps := (step_of_phaseCode? (i := .slp) awake alone (by rw [here]; rfl)).trans runs
    exact ⟨_, run_succ_of_next (M := Sys2Proof.core) steps, ⟨rfl, rfl, rfl, alone⟩,
      fun ⟨consumed, armed, unheld⟩ => by simp [consumed, armed, unheld]⟩
  | succ n ih =>
    have before : s.phase ≠ 7#3 := by
      intro here
      simp [here] at ahead
    obtain ⟨u, steps, next, awake', alone', nothing⟩ := step_beforeSlp awake alone before
    obtain ⟨t, run, boundary, sleeps⟩ := ih awake' alone' (by omega)
    exact ⟨t, (run_succ_of_next (M := Sys2Proof.core) steps).trans run, boundary, sleeps ∘ nothing⟩

/-- From the boundary a whole iteration ends asleep: `TCK` consumes the tick, and nothing else is pending (R182). -/
theorem AtBoundary.run_eight (boundary : AtBoundary s) (awake : s.asleep = false) :
    ∃ t, Sys2Proof.core.run 8 s = .next t ∧ t.asleep = true := by
  obtain ⟨atTck, armed, unheld, alone⟩ := boundary
  have steps := (step_of_phaseCode? (i := .tck) awake alone (by rw [atTck]; rfl)).trans (exec_of_taken (.tck awake atTck))
  obtain ⟨t, run, -, sleeps⟩ := run_to_boundary (n := 6)
    (s := { s with tickPending := false, phase := 1#3 }) awake alone rfl
  exact ⟨t, (run_succ_of_next (M := Sys2Proof.core) steps).trans run, sleeps ⟨rfl, armed, unheld⟩⟩

/-- Settles O50: at `Phase` 0 one iteration; elsewhere the rest of this one and, if that ends awake, one more. -/
theorem awakeBlockFallsAsleep : Obligations.AwakeBlockFallsAsleep := by
  intro s inv awake alone
  by_cases atTck : s.phase = 0#3
  · obtain ⟨-, armed, unheld⟩ := (blockInv_iff.mp inv).1.beforeSlp (by simp [atTck])
    obtain ⟨t, run, asleep⟩ := AtBoundary.run_eight ⟨atTck, armed, unheld, alone⟩ awake
    exact ⟨8, t, by decide, by decide, run, asleep⟩
  · have started : s.phase.toNat ≠ 0 := fun zero => atTck (BitVec.eq_of_toNat_eq zero)
    have := s.phase.isLt
    obtain ⟨t, run, boundary, -⟩ := run_to_boundary (n := 7 - s.phase.toNat) awake alone (by omega)
    rcases Bool.eq_false_or_eq_true t.asleep with asleep | awake'
    · exact ⟨_, t, Nat.le_add_left _ _, by omega, run, asleep⟩
    · obtain ⟨u, run', asleep⟩ := boundary.run_eight awake'
      exact ⟨_, u, by omega, by omega, (run_add_of_next run).trans run', asleep⟩

end Sys2Proof.Proofs

/-! SUPPORT. The statements of 60_exceptions.md: what the interrupt side leaves unchanged (R167). -/

namespace Sys2Proof.Proofs

open Sys2Proof.Machine Sys2Proof.Laws

/-- Settles O29: each delivery by its definition; `TICK` and `FLTPIN`, which are never refused, in each of the ways they are
taken but the reset, which a non-fatal `TICK` is not. -/
theorem interruptSideFrame : Obligations.InterruptSideFrame := by
  refine ⟨fun src s => ?_, fun s quiet => ?_, fun v s => ?_⟩
  · cases src with
    | tick | pc => rfl
  · obtain ⟨t, runs⟩ := exec_next_of_phaseCode?_none (i := .tick) rfl s
    refine ⟨t, runs, ?_⟩
    cases taken_of_exec runs with
    | tickDelivered | tickHeld => rfl
    | tickFatal masked late => exact nomatch quiet.symm.trans (isReset_of_late masked late)
  · obtain ⟨t, runs⟩ := exec_next_of_phaseCode?_none (i := .fltpin v) rfl s
    refine ⟨t, runs, ?_⟩
    cases taken_of_exec runs with
    | fltpinSilent | fltpinDelivered | fltpinHeld => rfl

end Sys2Proof.Proofs

/-! SUPPORT. The statements of 70_reset_and_hazards.md: the first iteration after reset (R182, R183, R184), the fault edge that
waits for the next tick (R190) and the extra iteration (R197), all three from what an iteration does as a whole. -/

namespace Sys2Proof.Proofs

open Sys2Proof.Machine Sys2Proof.Laws

variable {s : State}

/-! ### The rest of an iteration -/

/-- With nothing pending `SLP` ends asleep at the boundary (R142, R143). -/
theorem exec_slp_of_nothingPending (awake : s.asleep = false) (here : s.phase = 7#3) (nothing : NothingPending s) :
    exec .slp s = .next { s with phase := 0#3, intEnable := true, asleep := true } := by
  obtain ⟨consumed, armed, unheld⟩ := nothing
  simpa [consumed, armed, unheld] using exec_of_taken (.slp awake here)

/-- From `CLI` on, with nothing pending, an iteration ends asleep at the boundary (R141, R142). -/
theorem runOps_fromCli (awake : s.asleep = false) (here : s.phase = 6#3) (nothing : NothingPending s) :
    runOps (iterOps.drop 6) s = .next { s with phase := 0#3, intEnable := true, asleep := true } :=
  runOps_cons_of_taken (.cli awake here) <|
    runOps_cons_next.mpr ⟨_, exec_slp_of_nothingPending awake rfl nothing, rfl⟩

/-- From `OUT` on it also shows the outputs (R136). -/
theorem runOps_fromOut (awake : s.asleep = false) (here : s.phase = 5#3) (nothing : NothingPending s) :
    runOps (iterOps.drop 5) s = .next { s with
      powerEnabled := s.powerRequested, indicator := derivedIndicator s.powerRequested s.faultLatched, phase := 0#3,
      intEnable := true, asleep := true } :=
  runOps_cons_of_taken (.out awake here) (runOps_fromCli awake rfl nothing)

/-- From `ACK` on it also ends the pulse that is old enough (R124). -/
theorem runOps_fromAck (awake : s.asleep = false) (here : s.phase = 4#3) (nothing : NothingPending s) :
    runOps (iterOps.drop 4) s = .next { s with
      ackPulseActive := s.ackPulseActive && !s.ackExpired, powerEnabled := s.powerRequested,
      indicator := derivedIndicator s.powerRequested s.faultLatched, phase := 0#3, intEnable := true, asleep := true } := by
  obtain ⟨consumed, armed, unheld⟩ := nothing
  refine (runOps_cons_of_taken (.ack awake here) (runOps_fromOut awake rfl ⟨consumed, armed, by simp [unheld]⟩)).trans ?_
  simp [unheld]

/-- What is left of an iteration after its `FLT` ends asleep at the boundary, if nothing is pending and the line not driven;
it shows the power request unless `OUT` is past. -/
theorem runOps_afterFlt (awake : s.asleep = false) (here : s.phase = 4#3 ∨ s.phase = 5#3 ∨ s.phase = 6#3)
    (nothing : NothingPending s) (idle : s.ackPulseActive = false) :
    ∃ enabled shown, runOps (iterOps.drop s.phase.toNat) s = .next { s with
        powerEnabled := enabled, indicator := shown, phase := 0#3, intEnable := true, asleep := true } ∧
      (s.phase ≠ 6#3 → enabled = s.powerRequested) ∧ (s.phase = 6#3 → enabled = s.powerEnabled) := by
  rcases here with atAck | atOut | atCli
  · have run := runOps_fromAck awake atAck nothing
    exact ⟨_, _, by simpa [atAck, idle] using run, fun _ => rfl, by simp [atAck]⟩
  · have run := runOps_fromOut awake atOut nothing
    exact ⟨_, _, by simpa [atOut] using run, fun _ => rfl, by simp [atOut]⟩
  · have run := runOps_fromCli awake atCli nothing
    exact ⟨_, _, by simpa [atCli] using run, by simp [atCli], fun _ => rfl⟩

/-! ### A whole iteration

It has two halves: `TCK`, `BTN` and `ACT` see the button, and what follows sees the fault line. -/

/-- `ACT` applies a press in the iteration that begins in `s`: one that waits, or the one its `BTN` finds (R112, R121). -/
def appliesPress (s : State) : Bit := s.pressEvent || (!s.btnPin && !s.debouncedButtonState && s.debounceGate)

/-- The state in which `TCK`, `BTN` and `ACT` leave the iteration that begins in `s` (R102, R112, R121). -/
def afterAct (s : State) : State := { s with
  tickPending := false, rawButtonState := !s.btnPin, debouncedButtonState := !s.btnPin,
  debounceGate := (if s.btnPin then s.debounceGate || s.gateExpired else s.debounceGate && s.debouncedButtonState),
  lastActivity := (if s.btnPin then s.lastActivity else s.tick), pressEvent := false,
  faultLatched := s.faultLatched && !appliesPress s,
  powerRequested := s.powerRequested ^^ (appliesPress s && !s.faultLatched), phase := 3#3 }

/-- `FLT` in `s` latches a fault (R123). -/
def latchesFault (s : State) : Bit := s.faultActive && !s.faultLatched

/-- The state in which `FLT` in `s` and the rest of its iteration end, with nothing pending (R123, R124, R136, R142). -/
def settled (s : State) : State := { s with
  faultLineState := s.faultActive, faultLatched := s.faultLatched || s.faultActive,
  powerRequested := s.powerRequested && !latchesFault s,
  ackPulseActive := latchesFault s || (s.ackPulseActive && !s.ackExpired),
  ackPulseStart := (if latchesFault s then s.tick else s.ackPulseStart),
  powerEnabled := s.powerRequested && !latchesFault s,
  indicator := derivedIndicator (s.powerRequested && !latchesFault s) (s.faultLatched || s.faultActive),
  phase := 0#3, intEnable := true, asleep := true }

/-- A pulse stamped with the present tick is not old enough to end (R103, R124). -/
theorem ackExpired_of_stamped (now : s.ackPulseStart = s.tick) : s.ackExpired = false := by
  simp [State.ackExpired, now, ageOf_self, Config.ackTicks]

/-- From `FLT` on, with nothing pending, an iteration ends in `settled`; a pulse that `FLT` begins is too young for `ACK` to
end. -/
theorem runOps_fromFlt (awake : s.asleep = false) (here : s.phase = 3#3) (nothing : NothingPending s) :
    runOps (iterOps.drop 3) s = .next (settled s) := by
  refine (runOps_cons_of_taken (.flt awake here) (runOps_fromAck awake rfl nothing)).trans ?_
  cases latches : s.faultActive && !s.faultLatched with
  | true => simp [settled, latchesFault, latches, ackExpired_of_stamped]
  | false => simp [settled, latchesFault, latches, State.ackExpired]

/-- From an awake block at the boundary, with nothing held, the eight micro-operations end asleep in this state (R93). -/
theorem runOps_iterOps (awake : s.asleep = false) (here : s.phase = 0#3) (armed : s.tickIrq = false)
    (unheld : s.pcIrq = false) : runOps iterOps s = .next (settled (afterAct s)) :=
  runOps_cons_of_taken (.tck awake here) <| runOps_cons_of_taken (.btn awake rfl) <|
    runOps_cons_of_taken (.act awake rfl) <| runOps_fromFlt (s := afterAct s) awake rfl ⟨rfl, armed, unheld⟩

/-- Settles O48: an iteration from reset, evaluated for each pair of levels. -/
theorem firstIterationFromReset : Obligations.FirstIterationFromReset := by
  intro btn flt waiting
  refine (runOps_iterOps rfl rfl rfl rfl).trans ?_
  cases btn <;> cases flt <;> rfl

/-! ### The late fault edge -/

/-- A low line with no fault latched is latched in the next iteration, whether or not its `ACT` applies a press (R123). -/
theorem latchesFault_afterAct (low : s.fltN = false) (unlatched : s.faultLatched = false) :
    latchesFault (afterAct s) = true := by
  have active : (afterAct s).faultActive = true := faultActive_of_low low
  have still : (afterAct s).faultLatched = false := by simp [afterAct, unlatched]
  simp [latchesFault, active, still]

/-- The iteration whose `FLT` latches a fault cuts the power and shows Red (R123, R136). -/
theorem settled_of_latchesFault (latches : latchesFault s = true) :
    (settled s).faultLatched = true ∧ (settled s).powerRequested = false ∧ (settled s).powerEnabled = false ∧
      (settled s).indicator = .red := by
  obtain ⟨active, -⟩ := Bool.and_eq_true_iff.mp latches
  simp [settled, latches, active]

/-- At the boundary a low line with no fault latched cuts the power in the iteration after the next `TICK` (R123, R190). -/
theorem tickIteration_cutsPower (here : s.phase = 0#3) (enabled : s.intEnable = true) (unheld : s.pcIrq = false)
    (low : s.fltN = false) (unlatched : s.faultLatched = false) :
    ∃ t, runOps (.tick :: iterOps) s = .next t ∧
      t.faultLatched = true ∧ t.powerRequested = false ∧ t.powerEnabled = false ∧ t.indicator = .red :=
  ⟨_, runOps_cons_of_taken (.tickDelivered enabled) (runOps_iterOps rfl here rfl unheld),
    settled_of_latchesFault (latchesFault_afterAct low unlatched)⟩

/-- Settles O47: the edge is delivered and the rest of the iteration does not look at the line; the iteration after the `TICK`
does. -/
theorem lateFaultEdgeWaitsOneTick : Obligations.LateFaultEdgeWaitsOneTick := by
  intro s awake here enabled consumed armed unlatched idle released
  have edge := Taken.fltpinDelivered (s := s) false (by simp [released]) idle enabled
  obtain ⟨power, shown, rest, requested, kept⟩ := runOps_afterFlt
    (s := { s with fltExt := false, pcIrq := false, asleep := false }) rfl here ⟨consumed, armed, rfl⟩ idle
  obtain ⟨u, next, cut⟩ := tickIteration_cutsPower (s := { s with
    fltExt := false, pcIrq := false, powerEnabled := power, indicator := shown, phase := 0#3, intEnable := true,
    asleep := true }) rfl rfl rfl rfl unlatched
  exact ⟨_, u, runOps_cons_of_taken edge rest, rfl, rfl, unlatched, rfl, requested, kept, next, cut⟩

/-! ### The extra iteration -/

/-- After an iteration the sample is up to date and the gate stands: another one with the same button line and tick finds no
press and changes nothing before its `FLT` (R112, R121). -/
theorem afterAct_again (flag : Bit) (s : State) :
    afterAct { settled (afterAct s) with asleep := false, tickPending := flag } =
      { settled (afterAct s) with asleep := false, phase := 3#3 } := by
  cases pin : s.btnPin with
  | false => simp [afterAct, settled, appliesPress, pin]
  | true => simp [afterAct, settled, appliesPress, pin, State.gateExpired]

/-- Where an active line is latched already, no pulse is old enough to end and the outputs are shown, an iteration does
nothing from `FLT` on but to take the sample (R123, R124, R136). -/
theorem settled_of_quiet (latched : s.faultActive = true → s.faultLatched = true)
    (young : s.ackPulseActive = true → s.ackExpired = false) (enabled : s.powerEnabled = s.powerRequested)
    (shown : s.indicator = derivedIndicator s.powerRequested s.faultLatched) :
    settled s = { s with faultLineState := s.faultActive, phase := 0#3, intEnable := true, asleep := true } := by
  have none : latchesFault s = false := by simpa [latchesFault] using latched
  have sameLatch : (s.faultLatched || s.faultActive) = s.faultLatched := by simpa using latched
  have sameDrive : (s.ackPulseActive && !s.ackExpired) = s.ackPulseActive := by simpa using young
  simp [settled, none, sameLatch, sameDrive, enabled, shown]

/-- A drive after an iteration began at its `FLT`, or stood before and was not old enough to end (R123, R124). -/
theorem drive_of_settled (drives : (settled s).ackPulseActive = true) :
    latchesFault s = true ∨ s.ackPulseActive = true ∧ s.ackExpired = false := by
  simpa [settled] using drives

/-- A line active after an iteration was active at its `FLT`: the block drives it only if it was low then. -/
theorem faultActive_of_settled (active : (settled s).faultActive = true) : s.faultActive = true := by
  rcases faultActive_eq_true.mp active with low | drives
  · exact faultActive_eq_true.mpr (.inl low)
  · rcases drive_of_settled drives with latches | ⟨driven, -⟩
    · exact (Bool.and_eq_true_iff.mp latches).1
    · exact faultActive_eq_true.mpr (.inr driven)

/-- A pulse that an iteration leaves is not old enough to end before the next tick (R124). -/
theorem ackExpired_of_settled (drives : (settled s).ackPulseActive = true) : (settled s).ackExpired = false := by
  cases latches : latchesFault s with
  | true => exact ackExpired_of_stamped (by simp [settled, latches])
  | false =>
    obtain ⟨-, young⟩ : s.ackPulseActive = true ∧ s.ackExpired = false := by simpa [latches] using drive_of_settled drives
    simpa [settled, latches, State.ackExpired] using young

/-- From `FLT` on, another iteration with the same line and tick only takes the sample. -/
theorem settled_again (s : State) :
    settled { settled s with asleep := false, phase := 3#3 } =
      { settled s with faultLineState := (settled s).faultActive } :=
  settled_of_quiet (s := { settled s with asleep := false, phase := 3#3 })
    (fun active => by simp [settled, faultActive_of_settled (s := s) active]) (ackExpired_of_settled (s := s)) rfl rfl

/-- An inactive line is pulled by neither side (R63). -/
theorem released_of_inactive (inactive : s.faultActive = false) : s.fltExt = true ∧ s.ackPulseActive = false := by
  simpa [not_or] using mt faultActive_eq_true.mpr (Bool.eq_false_iff.mp inactive)

/-- Settles O49: the second iteration only takes a new sample of the line, and a line that was active at the first `FLT` and
is no more was pulled by a drive that has ended. -/
theorem extraIterationHarmless : Obligations.ExtraIterationHarmless := by
  intro flag s inv awake here
  obtain ⟨-, armed, unheld⟩ := (blockInv_iff.mp inv).1.beforeSlp (by simp [here])
  have first := runOps_iterOps awake here armed unheld
  have second := runOps_iterOps (s := { settled (afterAct s) with asleep := false, tickPending := flag })
    rfl rfl armed unheld
  rw [afterAct_again, settled_again] at second
  refine ⟨_, _, first, second, rfl, fun (moved : (settled (afterAct s)).faultActive ≠ (afterAct s).faultActive) => ?_⟩
  have inactive : (settled (afterAct s)).faultActive = false :=
    eq_false_of_ne_true fun active => moved (active.trans (faultActive_of_settled active).symm)
  have active : (afterAct s).faultActive = true := by simpa [inactive] using moved
  obtain ⟨released, idle⟩ := released_of_inactive inactive
  have driven := (faultActive_eq_true.mp active).resolve_left (by simp [show (afterAct s).fltExt = true from released])
  exact ⟨active, driven, idle, released⟩

end Sys2Proof.Proofs
